-- ==== Sys2Proof/Word.lean ====
section
/-! DEFINITION. The words of the block: the widths of 00_scope.md rule R9 (every value is unsigned)
and of 10_state.md rule R52. -/

namespace Sys2Proof

/-- A byte on the wire or in the response register (R8: a transfer is always 8 bits). -/
abbrev Byte := BitVec 8

/-- A command word, and the one width of a host access (R69, R90). -/
abbrev Word := BitVec 32

/-- The payload of a command word, and the width `PWM_W` of the PWM quantities (R7, R90). -/
abbrev Payload := BitVec 24

/-- The opcode of a command word (R90). -/
abbrev Opcode := BitVec 8

end Sys2Proof
end

