-- ==== Sys2Proof/Syntax.lean ====
section
/-! DEFINITION. The instructions: one constructor for each row of spec/opcode_table.json.  The first six are the
commands a HOST posts (30_encoding.md rule R96); the other six are internal operations without an encoding
(rule R101), which the agents DEC and PWM perform. -/

namespace Sys2Proof

/-- A ClockState register, the operand of `now` and `delay_until` (40_timebase.md rules R120, R121). -/
inductive ClockReg where
  /-- `spi_clk`, owned by DEC (10_state.md rule R32). -/
  | spi
  /-- `pwm_clk`, owned by PWM (10_state.md rule R42). -/
  | pwm
deriving DecidableEq, Repr

inductive Instr where
  /-- `SET_PERIOD n` (R172), payload kind P24. -/
  | setPeriod (n : Payload)
  /-- `SET_HIGH_TIME n` (R173), payload kind P24. -/
  | setHighTime (n : Payload)
  /-- `SET_POLARITY v` (R145), payload kind P1: the whole payload is the operand. -/
  | setPolarity (v : Payload)
  /-- `TRANSFER_NOW byte` (R144), payload kind P8: `payload[23:8]` is ignored. -/
  | transferNow (byte : Byte)
  /-- `SET_PHASE v` (R146), payload kind P1: the whole payload is the operand. -/
  | setPhase (v : Payload)
  /-- `SET_CS v` (R147): only `payload[0]` is used. -/
  | setCs (v : Bool)
  /-- `now()` (R120), with the ClockState that takes its result (R120 names the two places it is called in). -/
  | now (c : ClockReg)
  /-- `delay_until(c, inc)` (R121). -/
  | delayUntil (c : ClockReg) (inc : Nat)
  /-- `transfer(w, cpol, cpha)` (R130, R143): the mode is the pair of mode registers, as in its one call (R144). -/
  | transfer (w : Byte)
  /-- The PWM cycle `run()` (R160, R174). -/
  | pwmCycle
  /-- DEC's fetch step (R181). -/
  | fetch
  /-- DEC's publish step (R189), of the byte the transfer returned in `racc`. -/
  | publish
deriving DecidableEq, Repr

end Sys2Proof
end

