-- ==== Sys2Proof/WellFormed.lean ====
section
/-! DEFINITION. The operand values the spec gives each instruction.  Widths are in the operand types; what is left
is the range of the mode payloads (30_encoding.md rule R91, P1) and of a delay (40_timebase.md rule R121). -/

namespace Sys2Proof

/-- `SET_POLARITY` and `SET_PHASE` take 0 or 1 (R91, R98), `delay_until` an increment of at least 1 (R121).  An
instruction that breaks this is still decoded and still runs: it marks the fault the spec names. -/
def Instr.wf : Instr → Bool
  | .setPeriod _ => true
  | .setHighTime _ => true
  | .setPolarity v => decide (v.toNat ≤ 1)
  | .transferNow _ => true
  | .setPhase v => decide (v.toNat ≤ 1)
  | .setCs _ => true
  | .now _ => true
  | .delayUntil _ inc => decide (1 ≤ inc)
  | .transfer _ => true
  | .pwmCycle => true
  | .fetch => true
  | .publish => true

end Sys2Proof
end

