-- ==== Sys2Proof/Decode.lean ====
section
/-! DEFINITION. Decoding a command word and encoding a command (30_encoding.md rules R90 to R102). -/

namespace Sys2Proof

/-- What a command word stands for (R102: decoding is total on all words). -/
inductive Decoded where
  | command (i : Instr)
  /-- A reserved opcode, by its number (R97). -/
  | reserved (opcode : Opcode)
deriving DecidableEq, Repr

/-- `opcode = word[31:24]` (R90). -/
def opcodeOf (w : Word) : Opcode := w.extractLsb' 24 8

/-- `payload = word[23:0]` (R90). -/
def payloadOf (w : Word) : Payload := w.extractLsb' 0 24

/-- `word = (opcode << 24) | payload` (R102). -/
def joinWord (op : Opcode) (payload : Payload) : Word := op ++ payload

/-- The payload read as P24, and as the whole number P1 of the mode commands (R91). -/
def payloadWhole (p : Payload) : Payload := p

/-- The payload read as P8: `payload[7:0]`, the rest ignored (R91). -/
def payloadByte (p : Payload) : Byte := p.extractLsb' 0 8

/-- The payload of `SET_CS`: `payload[0]`, the rest ignored (R91). -/
def payloadBit (p : Payload) : Bool := p.getLsbD 0

/-- The opcode map of R96.  `hasCs` is the parameter `HAS_CS`: without it opcode `0x06` is reserved (R97). -/
def decodeFields (hasCs : Bool) (op : Opcode) (p : Payload) : Decoded :=
  match op.toNat with
  | 0x01 => .command (.setPeriod (payloadWhole p))
  | 0x02 => .command (.setHighTime (payloadWhole p))
  | 0x03 => .command (.setPolarity (payloadWhole p))
  | 0x04 => .command (.transferNow (payloadByte p))
  | 0x05 => .command (.setPhase (payloadWhole p))
  | 0x06 => if hasCs then .command (.setCs (payloadBit p)) else .reserved op
  | _ => .reserved op

/-- Decoding a whole command word (R102). -/
def decode (hasCs : Bool) (w : Word) : Decoded := decodeFields hasCs (opcodeOf w) (payloadOf w)

/-- The opcode of a command (R96); the internal operations have none (R101). -/
def opcodeNumber : Instr → Option Opcode
  | .setPeriod _ => some 0x01
  | .setHighTime _ => some 0x02
  | .setPolarity _ => some 0x03
  | .transferNow _ => some 0x04
  | .setPhase _ => some 0x05
  | .setCs _ => some 0x06
  | .now _ => none
  | .delayUntil _ _ => none
  | .transfer _ => none
  | .pwmCycle => none
  | .fetch => none
  | .publish => none

/-- The payload a HOST writes for a command, ignored bits as 0 (R91, R92). -/
def payloadNumber : Instr → Payload
  | .setPeriod n => n
  | .setHighTime n => n
  | .setPolarity v => v
  | .transferNow b => b.zeroExtend 24
  | .setPhase v => v
  | .setCs v => (BitVec.ofBool v).zeroExtend 24
  | .now _ => 0
  | .delayUntil _ _ => 0
  | .transfer _ => 0
  | .pwmCycle => 0
  | .fetch => 0
  | .publish => 0

/-- The command word of an instruction (R102); `none` for the internal operations (R101). -/
def encode (i : Instr) : Option Word :=
  (opcodeNumber i).map fun op => joinWord op (payloadNumber i)

/-- The instruction the decoder reads from a table row's bits, with `HAS_CS` true as the row of `SET_CS` asks. -/
def decodeTableWord (nbits w : Nat) : Option Instr :=
  match decode true (BitVec.ofNat 32 (w % 2 ^ nbits)) with
  | .command i => some i
  | .reserved _ => none

end Sys2Proof
end

