-- ==== Sys2Proof/Config.lean ====
section
/-! DEFINITION. What an implementation fixes (the OPEN parameters of 00_scope.md rule R7) and the values the
spec leaves open. -/

namespace Sys2Proof

/-- The OPEN parameters of 00_scope.md rule R7.  `State` carries one value of this type and no step changes it,
so a statement about every state is a statement about every choice of the parameters (log entry 1). -/
structure Params where
  /-- `TICK_W`, the width of the tick counter; `none` is the unbounded counter R7 allows (log entry 2). -/
  tickW     : Option Nat
  /-- `SPI_HALF_TICKS`, written `H`: ticks in one SPI half-cycle. -/
  halfTicks : Nat
  /-- `PWM_SHIFT`, written `S`. -/
  pwmShift  : Nat
  /-- `HAS_CS`: whether the pin `cs_n` and the command `SET_CS` exist. -/
  hasCs     : Bool
  /-- `HOST_BASE`, the address of the host register space (R61). -/
  hostBase  : Nat
deriving DecidableEq, Repr

/-- The constraints of R7: `H >= 1`, and `PWM_W + S <= TICK_W` when the tick counter is finite
(which gives `TICK_W >= 1`). -/
def Params.wf (p : Params) : Bool :=
  decide (1 ≤ p.halfTicks) &&
    match p.tickW with
    | none => true
    | some w => decide (24 + p.pwmShift ≤ w)

/-- DESIGN CHOICE (log entry 1): the parameters `State.reset` is built with: the reference width 32 of R7, and the
values the vectors of 95_test_vectors.md use unless they say otherwise. -/
def Params.reference : Params :=
  { tickW := some 32, halfTicks := 1, pwmShift := 0, hasCs := true, hostBase := 0 }

/-- Free value (log entry 3): `SAME_TICK_ORDER` of R7 and 20_memory.md rule R74.  Whether a write of a PwmState
field is ordered before a snapshot of the same instant, drawn once for each field and snapshot. -/
opaque Config.writeFirst : Nat → Bool

/-- Free value (log entry 4): the level SLAVE presents on `miso` at a sample the state's SLAVE table says nothing
of (93_implementation_defined.md U16: any value). -/
opaque Config.freeMiso : Nat → Bool

end Sys2Proof
end

