-- ==== Sys2Proof/Machine/State.lean ====
section
/-! DEFINITION. The state of the block as 10_state.md gives it (rules R20 to R53), the environment the block runs
in (HOST and SLAVE, 60_exceptions.md rule R222) as plain data, and the reset state (rule R53). -/

namespace Sys2Proof.Machine

/-- Where DEC stands in its loop (R26). -/
inductive DecState where
  /-- Waiting for `cmd_valid == 1`. -/
  | idle
  /-- Inside a transfer, waiting for the deadline of slot `spi_slot`. -/
  | xfer
  /-- Transfer done, waiting for `resp_valid == 0`. -/
  | publish
deriving DecidableEq, Repr

/-- Where PWM stands in its cycle (R44). -/
inductive PwmPhase where
  /-- About to take the snapshot. -/
  | snap
  /-- Snapshot taken, waiting the owed time before the first pin action of the cycle. -/
  | start
  /-- Output driven high in the general case, waiting before driving low. -/
  | fall
deriving DecidableEq, Repr

/-- The behaviours the spec leaves undefined, by the names of 60_exceptions.md rule R211. -/
inductive FaultName where
  | badModeValue
  | pwmZeroPeriod
  | zeroDelay
deriving DecidableEq, Repr

/-- The sticky `fault` of R46: a set of names, one mark for each. -/
structure FaultMarks where
  badModeValue  : Bool
  pwmZeroPeriod : Bool
  zeroDelay     : Bool
deriving DecidableEq, Repr

/-- The empty set of R53. -/
def FaultMarks.empty : FaultMarks := ⟨false, false, false⟩

/-- How the environment's SLAVE drives `miso` (R37: not state of the block, but a value at every instant). -/
inductive Slave where
  /-- The level at each listed instant; at an instant not listed it is a free value (log entry 4). -/
  | table (levels : List (Nat × Bool))
  /-- A wire from `mosi` to `miso` (R140, R148). -/
  | echo
deriving DecidableEq, Repr

/-- What the environment does at the host port: the two accesses of R60 with address and size in bytes, the HOST
actions `POST` and `TAKE` of R103, the HOST's own wait of some ticks without an access (R203, R249; log entry 14), and
the block's one reset (R230, R232), after which SLAVE is the one given. -/
inductive HostAction where
  | read (addr size : Nat)
  | write (addr size : Nat) (v : Word)
  | post (w : Word)
  | take
  | wait (ticks : Nat)
  | reset (slave : Slave)
deriving DecidableEq, Repr

/-- A state of the block with its environment.  The elements of R52 keep the spec's names; those below the line
`environment` are the model's own. -/
structure State where
  /-- `ticks` (R20), unbounded; `step` refuses what leaves `cfg.tickW` bits (log entry 2). -/
  ticks : Nat
  /-- `cmd_word` (R21). -/
  cmdWord : Word
  /-- `cmd_valid` (R22). -/
  cmdValid : Bool
  /-- `resp_byte` (R23). -/
  respByte : Byte
  /-- `resp_valid` (R24). -/
  respValid : Bool
  /-- `dec_op` (R25). -/
  decOp : Opcode
  /-- `dec_payload` (R25). -/
  decPayload : Payload
  /-- `dec_state` (R26). -/
  decState : DecState
  /-- `spi_slot` (R27). -/
  spiSlot : BitVec 5
  /-- `cpol` (R28). -/
  cpol : Bool
  /-- `cpha` (R29). -/
  cpha : Bool
  /-- `wbyte` (R30). -/
  wbyte : Byte
  /-- `racc` (R31). -/
  racc : Byte
  /-- `spi_clk` (R32). -/
  spiClk : Nat
  /-- `sclk` (R34). -/
  sclk : Bool
  /-- `mosi` (R35). -/
  mosi : Bool
  /-- `cs_n` (R36), meaningful when `cfg.hasCs`. -/
  csN : Bool
  /-- `pwm_out` (R38). -/
  pwmOut : Bool
  /-- `period` (R40). -/
  period : Payload
  /-- `high_time` (R41). -/
  highTime : Payload
  /-- `pwm_clk` (R42). -/
  pwmClk : Nat
  /-- `cct` (R43). -/
  cct : Payload
  /-- `pwm_phase` (R44). -/
  pwmPhase : PwmPhase
  /-- `snap_p` (R45). -/
  snapP : Payload
  /-- `snap_h` (R45). -/
  snapH : Payload
  /-- `fault` (R46). -/
  fault : FaultMarks
  -- environment and the model's own fields (log entries 1, 3, 4, 5, 6)
  /-- The OPEN parameters; no step changes them (log entry 1). -/
  cfg : Params
  /-- The value of `period` before a write of this instant that no snapshot has seen yet (log entry 3). -/
  periodPrev : Payload
  /-- The value of `high_time` before a write of this instant that no snapshot has seen yet (log entry 3). -/
  highPrev : Payload
  /-- How many free orders of a write and a snapshot have been drawn (log entry 3). -/
  raceDraw : Nat
  /-- How many samples of `miso` have been taken, which counts the free levels (log entry 4). -/
  misoDraw : Nat
  /-- What drives `miso` (log entry 4). -/
  slave : Slave
  /-- The HOST's coming actions, each with the first instant it may happen at (log entry 5). -/
  hostScript : List (Nat × HostAction)
  /-- The HOST has seen the flag the `POST` or `TAKE` at the head of the script polls (log entry 5). -/
  hostPolled : Bool
  /-- The HOST has made its one access of this instant (R214). -/
  hostDone : Bool
  /-- The values the HOST has read, newest first, each with its instant (log entry 5). -/
  hostLog : List (Nat × Word)
deriving DecidableEq, Repr

/-- Why the machine stops with a fault. -/
inductive Fault where
  /-- Raised by `step` in a state whose `fault` set is not empty, once nothing more happens at that instant: what
  the hardware does after an undefined behaviour is not specified (R211, 93_implementation_defined.md U14).  Safe. -/
  | undefinedBehaviour (marks : FaultMarks)
deriving DecidableEq, Repr

/-- Why the model has no next state. -/
inductive Refusal where
  /-- Raised by `exec` for an instruction without a meaning yet.  Safe. -/
  | notModelled (mnemonic : String)
  /-- Raised by a host access that is not to one of the four registers (R67).  Safe. -/
  | hostAccessOutside (addr : Nat)
  /-- Raised by a host access that is not one aligned 32-bit word (R69).  Safe. -/
  | hostAccessNotAWord (addr size : Nat)
  /-- Raised by `step` when the tick counter or a deadline leaves `TICK_W` bits (R127, R248, U7).  Safe. -/
  | tickRange (bits : Nat)
deriving DecidableEq, Repr

/-- The state right after reset (R53) in a block with the parameters `p`.  The environment's fields are empty
(log entry 6). -/
def State.resetWith (p : Params) : State :=
  { ticks := 0
    cmdWord := 0
    cmdValid := false
    respByte := 0
    respValid := false
    decOp := 0
    decPayload := 0
    decState := .idle
    spiSlot := 0
    cpol := false
    cpha := false
    wbyte := 0
    racc := 0
    spiClk := 0
    sclk := false
    mosi := false
    csN := true
    pwmOut := false
    period := 2
    highTime := 0
    pwmClk := 0
    cct := 0
    pwmPhase := .snap
    snapP := 0
    snapH := 0
    fault := .empty
    cfg := p
    periodPrev := 2
    highPrev := 0
    raceDraw := 0
    misoDraw := 0
    slave := .table []
    hostScript := []
    hostPolled := false
    hostDone := false
    hostLog := [] }

/-- The state right after reset, with the parameters `Params.reference` (log entry 1). -/
def State.reset : State := State.resetWith Params.reference

end Sys2Proof.Machine
end

