-- ==== Sys2Proof/Machine/Flags.lean ====
section
/-! DEFINITION. The two status flags `cmd_valid` and `resp_valid`: who sets and who clears each
(10_state.md rule R49).  The block has no condition codes. -/

namespace Sys2Proof.Machine

/-- The HOST's write of `CMD` (R63): taken when the mailbox is empty, else dropped without a trace (log
entry 10). -/
def State.postCommand (s : State) (v : Word) : State :=
  if s.cmdValid then s else { s with cmdWord := v, cmdValid := true }

/-- The HOST's read of `RESP` consumes the response (R65). -/
def State.consumeResponse (s : State) : State := { s with respValid := false }

/-- `CMD_READY` as the HOST reads it (R64). -/
def State.cmdReady (s : State) : Bool := !s.cmdValid

/-- DEC publishes a byte (R189): it fills the response register and sets `resp_valid`. -/
def State.publishByte (s : State) (r : Byte) : State := { s with respByte := r, respValid := true }

end Sys2Proof.Machine
end

