-- ==== Sys2Proof/Machine/Operands.lean ====
section
/-! DEFINITION. The operand forms: one bit of a byte, the mode payload, the clamp and the scaling
(30_encoding.md rule R91, 42_pwm_generator.md rules R163, R165, R176). -/

namespace Sys2Proof.Machine

/-- `w[b]` (R9). -/
def bitOf (w : Byte) (b : Nat) : Bool := w.getLsbD b

/-- `racc <- {racc[6:0], s}` (R136: left-shift then OR, cut to 8 bits). -/
def shiftIn (r : Byte) (s : Bool) : Byte := (r <<< 1) ||| (BitVec.ofBool s).zeroExtend 8

/-- The value of a mode payload, when it is 0 or 1 (R91, R98). -/
def modeBit (v : Payload) : Option Bool :=
  if v.toNat = 0 then some false else if v.toNat = 1 then some true else none

/-- `min(h, p)` on unsigned numbers (R163). -/
def clampTo (h p : Payload) : Payload := if p.toNat < h.toNat then p else h

/-- `v << S`, the ticks for `v` logical units, with every bit kept (R165, R176). -/
def scaled (v : Payload) (shift : Nat) : Nat := v.toNat * 2 ^ shift

/-- The packed GPIO word `{sclk, 0, mosi}` (R39, R93). -/
def packGpo (clock data : Bool) : BitVec 3 :=
  ((BitVec.ofBool clock).zeroExtend 3 <<< 2) ||| (BitVec.ofBool data).zeroExtend 3

/-- The view `gpo` of the SPI outputs (R39). -/
def State.gpo (s : State) : BitVec 3 := packGpo s.sclk s.mosi

end Sys2Proof.Machine
end

