-- ==== Sys2Proof/Machine/Ops.lean ====
section
/-! DEFINITION. The operations the meanings share: the fault marks, the ClockState registers and the two Timebase
primitives (40_timebase.md), the pin reads and writes, DEC's latch of a command, and the read of a shared field.
The block has no exception to take and none to return from (60_exceptions.md rules R210, R215); what stands in
their place is the sticky mark. -/

namespace Sys2Proof.Machine

/-- `fault <Name>` (R10, R46): the name is added to the set and nothing clears it. -/
def FaultMarks.add (m : FaultMarks) : FaultName → FaultMarks
  | .badModeValue => { m with badModeValue := true }
  | .pwmZeroPeriod => { m with pwmZeroPeriod := true }
  | .zeroDelay => { m with zeroDelay := true }

/-- Whether any name is in the set. -/
def FaultMarks.any (m : FaultMarks) : Bool := m.badModeValue || m.pwmZeroPeriod || m.zeroDelay

/-- `fault <Name>` on a state. -/
def State.mark (s : State) (n : FaultName) : State := { s with fault := s.fault.add n }

/-- A ClockState register as it stands. -/
def State.clock (s : State) : ClockReg → Nat
  | .spi => s.spiClk
  | .pwm => s.pwmClk

/-- A ClockState register written. -/
def State.setClock (s : State) (c : ClockReg) (t : Nat) : State :=
  match c with
  | .spi => { s with spiClk := t }
  | .pwm => { s with pwmClk := t }

/-- `now()` (R120). -/
def State.now (s : State) : Nat := s.ticks

/-- Whether the caller of `delay_until(c, inc)` can go on: its deadline is reached (R121), or the call is the
undefined one of R123. -/
def delayOver (c : ClockReg) (inc : Nat) (s : State) : Bool :=
  decide (inc = 0) || decide (s.clock c + inc ≤ s.ticks)

/-- `delay_until(c, inc)` (R121, R123, R124), followed by `k` when the wait ends.  While the deadline lies ahead the
caller busy-waits and nothing changes.  The deadline is counted from the ClockState, never from `now()`. -/
def delayUntil (c : ClockReg) (inc : Nat) (k : State → State) (s : State) : State :=
  if inc = 0 then s.mark .zeroDelay
  else if s.clock c + inc ≤ s.ticks then k (s.setClock c (s.clock c + inc))
  else s

/-- The two SPI outputs written at one instant (R135). -/
def State.drivePins (s : State) (clock data : Bool) : State := { s with sclk := clock, mosi := data }

/-- The clock output alone (R136, R137). -/
def State.driveClock (s : State) (clock : Bool) : State := { s with sclk := clock }

/-- `PinRead(miso)` (R10, R140): the level SLAVE presents at this instant, before this instant's pin writes. -/
def State.pinRead (s : State) : Bool :=
  match s.slave with
  | .echo => s.mosi
  | .table levels => (levels.lookup s.ticks).getD (Config.freeMiso s.misoDraw)

/-- DEC's latch of the pending command (R181, R76). -/
def State.latchCommand (s : State) : State :=
  { s with decOp := opcodeOf s.cmdWord, decPayload := payloadOf s.cmdWord, cmdValid := false }

/-- DEC back at the head of its loop (R180). -/
def State.decIdle (s : State) : State := { s with decState := .idle }

/-- What PWM reads of a shared field (R73, R74): the latest write ordered before the read, where a write of this
instant may be ordered either way. -/
def sharedRead (before now : Payload) (writeFirst : Bool) : Payload :=
  if before = now then now else if writeFirst then now else before

end Sys2Proof.Machine
end

