-- ==== Sys2Proof/Machine/CommandDecoder.lean ====
section
/-! DEFINITION. The command decoder's own steps: `fetch` and `publish` (43_command_decoder.md). -/

namespace Sys2Proof.Machine

/-- `fetch` (R181). -/
def execFetch (s : State) : Host.Outcome State Fault Refusal :=
  .next s.latchCommand

/-- `publish` (R189) of the byte the transfer left in `racc`: DEC stands in `PUBLISH` until the previous response has
been taken, then fills the response register and goes back to `IDLE` (R144, R180). -/
def execPublish (s : State) : Host.Outcome State Fault Refusal :=
  if s.respValid then .next { s with decState := .publish }
  else .next (s.publishByte s.racc).decIdle

end Sys2Proof.Machine
end

