-- ==== Sys2Proof/Machine/Timebase.lean ====
section
/-! DEFINITION. The Timebase: TB's step and the meanings of `now` and `delay_until` (40_timebase.md). -/

namespace Sys2Proof.Machine

/-- TB's step (R129): one more tick.  With the new instant the HOST may access again (R214), and every write made so
far is ordered before the snapshots to come (R74). -/
def State.tick (s : State) : State :=
  { s with ticks := s.ticks + 1, hostDone := false, periodPrev := s.period, highPrev := s.highTime }

/-- `now()` (R120), its result stored in the ClockState `c`. -/
def execNow (c : ClockReg) (s : State) : Host.Outcome State Fault Refusal :=
  .next (s.setClock c s.now)

/-- `delay_until(c, inc)` (R121): its caller resumes with the deadline in `c`, or goes on waiting. -/
def execDelayUntil (c : ClockReg) (inc : Nat) (s : State) : Host.Outcome State Fault Refusal :=
  .next (Sys2Proof.Machine.delayUntil c inc (fun t => t) s)

/-- Whether a number of ticks fits the tick counter (R7, R127). -/
def tickFits (p : Params) (t : Nat) : Bool :=
  match p.tickW with
  | none => true
  | some w => decide (t < 2 ^ w)

end Sys2Proof.Machine
end

