-- ==== Sys2Proof/Machine/PwmGenerator.lean ====
section
/-! DEFINITION. The PWM generator: the cycle, `SET_PERIOD` and `SET_HIGH_TIME` (42_pwm_generator.md). -/

namespace Sys2Proof.Machine

/-- Step `SNAP`: the snapshot (R162), the clamp (R163) and a period of 0 (R164).  A value a snapshot has returned is
from then on ordered before it, so the next snapshot of the instant cannot see an older one (R73). -/
def pwmSnap (s : State) : State :=
  let p := sharedRead s.periodPrev s.period (Config.writeFirst s.raceDraw)
  let h := sharedRead s.highPrev s.highTime (Config.writeFirst (s.raceDraw + 1))
  let t := { s with snapP := p, snapH := clampTo h p, periodPrev := p, highPrev := h, raceDraw := s.raceDraw + 2 }
  if p.toNat = 0 then t.mark .pwmZeroPeriod else { t with pwmPhase := .start }

/-- Step `START`, part 2: the choice of case in the source's order (R166) and the pin action: always-on (R167),
always-off (R168), or the rise of a general cycle (R169). -/
def pwmAct (s : State) : State :=
  if s.snapP.toNat ≤ s.snapH.toNat then { s with pwmOut := true, cct := s.snapP, pwmPhase := .snap }
  else if s.snapH.toNat = 0 then { s with pwmOut := false, cct := s.snapP, pwmPhase := .snap }
  else { s with pwmOut := true, pwmPhase := .fall }

/-- Step `START`: the owed wait (R165), which is no wait when nothing is owed, then the action. -/
def pwmStart (s : State) : State :=
  if scaled s.cct s.cfg.pwmShift = 0 then pwmAct s
  else Sys2Proof.Machine.delayUntil .pwm (scaled s.cct s.cfg.pwmShift) pwmAct s

/-- The fall of a general cycle (R169). -/
def pwmLower (s : State) : State :=
  { s with pwmOut := false, cct := s.snapP - s.snapH, pwmPhase := .snap }

/-- Step `FALL`: the inner wait of a general cycle, then the fall (R169). -/
def pwmFall (s : State) : State :=
  Sys2Proof.Machine.delayUntil .pwm (scaled s.snapH s.cfg.pwmShift) pwmLower s

/-- The PWM cycle `run()` (R160, R174), one stretch between two waits or two phases. -/
def execPwmCycle (s : State) : Host.Outcome State Fault Refusal :=
  match s.pwmPhase with
  | .snap => .next (pwmSnap s)
  | .start => .next (pwmStart s)
  | .fall => .next (pwmFall s)

/-- `SET_PERIOD n` (R172): no range check. -/
def execSetPeriod (n : Payload) (s : State) : Host.Outcome State Fault Refusal :=
  .next (State.decIdle { s with period := n })

/-- `SET_HIGH_TIME n` (R173): no range check. -/
def execSetHighTime (n : Payload) (s : State) : Host.Outcome State Fault Refusal :=
  .next (State.decIdle { s with highTime := n })

end Sys2Proof.Machine
end

