-- ==== Sys2Proof/Machine/SpiMaster.lean ====
section
/-! DEFINITION. The SPI master: the slots of a transfer, `transfer`, `TRANSFER_NOW`, `SET_POLARITY`, `SET_PHASE` and
`SET_CS` (41_spi_transfer.md). -/

namespace Sys2Proof.Machine

/-- What a slot does (R132). -/
inductive SlotKind where
  | dummy
  /-- Drive bit `b`. -/
  | drive (b : Nat)
  /-- Sample bit `b`. -/
  | sample (b : Nat)
  | ret
  /-- No slot of the transfer. -/
  | none
deriving DecidableEq, Repr

/-- `N`: 18 slots in phase 0, 16 in phase 1 (R131). -/
def slotCount (a : Bool) : Nat := if a then 16 else 18

/-- The table of R132: phase, slot number, what the slot does. -/
def slotKind (a : Bool) (k : Nat) : SlotKind :=
  if a then
    if k < 16 then
      if k % 2 = 0 then .drive (7 - k / 2) else .sample (7 - k / 2)
    else .none
  else if k = 0 then .dummy
  else if k < 17 then
    if k % 2 = 1 then .drive (7 - (k - 1) / 2) else .sample (7 - (k - 2) / 2)
  else if k = 17 then .ret
  else .none

/-- The action of a slot (R134 dummy, R135 drive, R136 sample, R137 return). -/
def slotAction (kind : SlotKind) (s : State) : State :=
  match kind with
  | .dummy => s.drivePins s.cpol (bitOf s.wbyte 7)
  | .drive b => s.drivePins (s.cpol ^^ s.cpha) (bitOf s.wbyte b)
  | .sample _ => State.driveClock { s with racc := shiftIn s.racc s.pinRead, misoDraw := s.misoDraw + 1 } (!(s.cpol ^^ s.cpha))
  | .ret => s.driveClock s.cpol
  | .none => s

/-- One pass of the slot loop up to its wait (R138): the action of slot `spi_slot`, then the next number. -/
def slotStep (s : State) : State :=
  { slotAction (slotKind s.cpha s.spiSlot.toNat) s with spiSlot := s.spiSlot + 1 }

/-- Start of a transfer (R133) with the action of slot 0 at the same instant. -/
def transferStart (w : Byte) (s : State) : State :=
  slotStep { s with spiClk := s.now, wbyte := w, racc := 0, spiSlot := 0, decState := .xfer }

/-- After the wait of a slot (R138): the next slot, or the transfer returns and DEC goes to publish (R144). -/
def slotOrReturn (s : State) : State :=
  if s.spiSlot.toNat = slotCount s.cpha then { s with decState := .publish } else slotStep s

/-- A transfer under way goes on when the deadline of its slot is reached (R138, R121). -/
def transferResume (s : State) : State :=
  Sys2Proof.Machine.delayUntil .spi s.cfg.halfTicks slotOrReturn s

/-- `transfer(w, cpol, cpha)` (R130, R143), one stretch between two waits: a call starts it, and while it is under
way (`dec_state == XFER`, its byte latched in `wbyte`) it goes on from its current slot (log entry 7). -/
def execTransfer (w : Byte) (s : State) : Host.Outcome State Fault Refusal :=
  match s.decState with
  | .idle => .next (transferStart w s)
  | .publish => .next (transferStart w s)
  | .xfer => .next (transferResume s)

/-- `TRANSFER_NOW byte` (R144): the transfer starts at the instant of the fetch; its slots and its publish follow. -/
def execTransferNow (byte : Byte) (s : State) : Host.Outcome State Fault Refusal :=
  .next (transferStart byte s)

/-- `SET_POLARITY v` (R145): `sclk` is not written. -/
def execSetPolarity (v : Payload) (s : State) : Host.Outcome State Fault Refusal :=
  match modeBit v with
  | some b => .next (State.decIdle { s with cpol := b })
  | none => .next (s.mark .badModeValue).decIdle

/-- `SET_PHASE v` (R146). -/
def execSetPhase (v : Payload) (s : State) : Host.Outcome State Fault Refusal :=
  match modeBit v with
  | some b => .next (State.decIdle { s with cpha := b })
  | none => .next (s.mark .badModeValue).decIdle

/-- `SET_CS v` (R147); without the pin its opcode is reserved and changes nothing (R97; log entry 11). -/
def execSetCs (v : Bool) (s : State) : Host.Outcome State Fault Refusal :=
  if s.cfg.hasCs then .next (State.decIdle { s with csN := v }) else .next s.decIdle

end Sys2Proof.Machine
end

