-- ==== Sys2Proof/Machine/Dispatch.lean ====
section
/-! DEFINITION. The dispatch: one arm for each constructor of `Instr`. -/

namespace Sys2Proof.Machine

def exec (i : Instr) (s : State) : Host.Outcome State Fault Refusal :=
  match i with
  | .setPeriod n => Sys2Proof.Machine.execSetPeriod n s
  | .setHighTime n => Sys2Proof.Machine.execSetHighTime n s
  | .setPolarity v => Sys2Proof.Machine.execSetPolarity v s
  | .transferNow byte => Sys2Proof.Machine.execTransferNow byte s
  | .setPhase v => Sys2Proof.Machine.execSetPhase v s
  | .setCs v => Sys2Proof.Machine.execSetCs v s
  | .now c => Sys2Proof.Machine.execNow c s
  | .delayUntil c inc => Sys2Proof.Machine.execDelayUntil c inc s
  | .transfer w => Sys2Proof.Machine.execTransfer w s
  | .pwmCycle => Sys2Proof.Machine.execPwmCycle s
  | .fetch => Sys2Proof.Machine.execFetch s
  | .publish => Sys2Proof.Machine.execPublish s

end Sys2Proof.Machine
end

