-- ==== Sys2Proof/Machine/HostPort.lean ====
section
/-! DEFINITION. The host register space (20_memory.md) and the HOST as an agent (rules R79, R103, R214), with the
HOST-side helpers the spec names: the pseudo-commands of 30_encoding.md rule R103 and the accelerometer register
access of 44_accel_consumer.md. -/

namespace Sys2Proof.Machine

/-- The four host registers (R62). -/
inductive HostReg where
  | cmd
  | cmdReady
  | resp
  | respValid
deriving DecidableEq, Repr

/-- The register at an offset (R62). -/
def hostRegAt (off : Nat) : Option HostReg :=
  if off = 0x0 then some .cmd
  else if off = 0x4 then some .cmdReady
  else if off = 0x8 then some .resp
  else if off = 0xC then some .respValid
  else none

/-- Which register a host access reaches: one aligned 32-bit word at one of the four offsets from `HOST_BASE`
(R60, R67, R69; log entry 11). -/
def hostTarget (p : Params) (addr size : Nat) : Except Refusal HostReg :=
  if addr < p.hostBase then .error (.hostAccessOutside addr)
  else if 16 ≤ addr - p.hostBase then .error (.hostAccessOutside addr)
  else if size ≠ 4 then .error (.hostAccessNotAWord addr size)
  else
    match hostRegAt (addr - p.hostBase) with
    | some r => .ok r
    | none => .error (.hostAccessNotAWord addr size)

/-- The word a read of a host register returns (R64, R65, R66, R67). -/
def State.hostValue (s : State) : HostReg → Word
  | .cmd => 0
  | .cmdReady => (BitVec.ofBool s.cmdReady).zeroExtend 32
  | .resp => s.respByte.zeroExtend 32
  | .respValid => (BitVec.ofBool s.respValid).zeroExtend 32

/-- The side effect of a read: only `RESP` has one (R65, R70). -/
def State.afterHostRead (s : State) : HostReg → State
  | .cmd => s
  | .cmdReady => s
  | .resp => s.consumeResponse
  | .respValid => s

/-- The effect of a write: only `CMD` has one (R63, R67, R70). -/
def State.afterHostWrite (s : State) (r : HostReg) (v : Word) : State :=
  match r with
  | .cmd => s.postCommand v
  | .cmdReady => s
  | .resp => s
  | .respValid => s

/-- A read as the HOST sees it: the word is recorded with its instant, and the HOST has used its access (R214). -/
def State.hostReads (s : State) (r : HostReg) : State :=
  { s.afterHostRead r with hostLog := (s.ticks, s.hostValue r) :: s.hostLog, hostDone := true }

/-- A write by the HOST, which uses its access of the instant (R214). -/
def State.hostWrites (s : State) (r : HostReg) (v : Word) : State :=
  { s.afterHostWrite r v with hostDone := true }

/-- The HOST has finished the action at the head of its script. -/
def State.hostNext (s : State) (rest : List (Nat × HostAction)) : State :=
  { s with hostScript := rest, hostPolled := false }

/-- A poll of `POST` or `TAKE` (R103): read the flag; the HOST goes on at a later instant once it has read 1. -/
def State.hostPoll (s : State) (r : HostReg) : State :=
  { s.hostReads r with hostPolled := s.hostValue r == 1 }

/-- The block's one reset (R230, R232): every element takes its reset value at once.  The environment goes on, with
the SLAVE given and the HOST's remaining script counted from the new instant 0 (log entries 5 and 12). -/
def State.resetNow (s : State) (slave : Slave) (rest : List (Nat × HostAction)) : State :=
  { State.resetWith s.cfg with slave := slave, hostScript := rest, hostLog := s.hostLog, raceDraw := s.raceDraw, misoDraw := s.misoDraw }

/-- The HOST's remaining actions, the first of them held back until instant `n`; the others wait for it. -/
def notBefore (n : Nat) : List (Nat × HostAction) → List (Nat × HostAction)
  | [] => []
  | (t, a) :: rest => (max t n, a) :: rest

/-- One access of the HOST, its own wait, or the reset (R79, R103, R214).  A wait of `n` ticks makes no access: the next
action may come `n` instants from now, and the access of this instant is still free (R203, R249; log entry 14).
DESIGN CHOICE (log entry 12): the reset takes the HOST's turn of the instant. -/
def hostAct (a : HostAction) (rest : List (Nat × HostAction)) (s : State) : Host.Outcome State Fault Refusal :=
  match a with
  | .read addr size =>
    match hostTarget s.cfg addr size with
    | .ok r => .next ((s.hostReads r).hostNext rest)
    | .error e => .refused e
  | .write addr size v =>
    match hostTarget s.cfg addr size with
    | .ok r => .next ((s.hostWrites r v).hostNext rest)
    | .error e => .refused e
  | .post w =>
    if s.hostPolled then .next ((s.hostWrites .cmd w).hostNext rest) else .next (s.hostPoll .cmdReady)
  | .take =>
    if s.hostPolled then .next ((s.hostReads .resp).hostNext rest) else .next (s.hostPoll .respValid)
  | .wait n => .next (s.hostNext (notBefore (s.ticks + n) rest))
  | .reset slave => .next (s.resetNow slave rest)

/-- The HOST has an action to take at this instant: at most one access, and not before the instant its script names.
DESIGN CHOICE (log entry 12): the reset is ready under the same condition, so it never falls in an instant in which the
HOST has made its access. -/
def State.hostReady (s : State) : Bool :=
  match s.hostScript with
  | [] => false
  | (t, _) :: _ => !s.hostDone && decide (t ≤ s.ticks)

/-- The HOST's step. -/
def hostStep (s : State) : Host.Outcome State Fault Refusal :=
  match s.hostScript with
  | [] => .next s
  | (_, a) :: rest => hostAct a rest s

/-- A line of a HOST program (R103): a command, a pseudo-command, or a HOST action; or the HOST's own wait between two
lines (R203), which has no text in R103 (log entry 14). -/
inductive HostLine where
  | command (i : Instr)
  | setMode (c a : Payload)
  | select
  | deselect
  | take
  | wait (ticks : Nat)
deriving DecidableEq, Repr

/-- The `POST` a command line stands for (R103). -/
def postOf (i : Instr) : List HostAction :=
  match encode i with
  | some w => [.post w]
  | none => []

/-- The expansion of a line (R103). -/
def HostLine.expand : HostLine → List HostAction
  | .command i => postOf i
  | .setMode c a => postOf (.setPolarity c) ++ postOf (.setPhase a)
  | .select => postOf (.setCs false)
  | .deselect => postOf (.setCs true)
  | .take => [.take]
  | .wait n => [.wait n]

/-- A HOST program as a script whose actions may each happen from instant `t` on. -/
def hostProgram (t : Nat) (lines : List HostLine) : List (Nat × HostAction) :=
  (lines.flatMap HostLine.expand).map fun a => (t, a)

/-- Format A, the accelerometer opcode byte (R95, R202): `0 << 7 | (addr << 1)` to read, `1 << 7 | (addr << 1)` to
write, with a 6-bit register address. -/
def accelOpcode (write : Bool) (addr : BitVec 6) : Byte := BitVec.ofBool write ++ addr ++ (0 : BitVec 1)

/-- The register access of a consumer (R201, R203): two transfers inside one selection, with the settle delay after the
assert and before the deassert.  The spec gives neither its length nor whether it stands at one place or both, so the
two lengths are parameters, 0 for a place without a delay (log entry 14). -/
def accelAccess (write : Bool) (addr : BitVec 6) (value : Byte) (settleAfter settleBefore : Nat) : List HostLine :=
  [.select, .wait settleAfter, .command (.transferNow (accelOpcode write addr)), .take, .command (.transferNow value),
    .take, .wait settleBefore, .deselect]

end Sys2Proof.Machine
end

