-- ==== Sys2Proof/Machine/Schedule.lean ====
section
/-! DEFINITION. The agents DEC, PWM, HOST and TB taking turns (60_exceptions.md rules R214, R222;
40_timebase.md rule R129; 43_command_decoder.md rule R180). -/

namespace Sys2Proof.Machine

/-- DEC has a step it can take (R129): a command to fetch, a slot whose deadline is reached, or a response to publish
into an empty register.  After a fault of its own it takes none. -/
def State.decReady (s : State) : Bool :=
  !s.fault.badModeValue && !s.fault.zeroDelay &&
    match s.decState with
    | .idle => s.cmdValid
    | .xfer => delayOver .spi s.cfg.halfTicks s
    | .publish => !s.respValid

/-- PWM has a step it can take (R129): a snapshot, or an action whose wait is over.  After a fault of its own it takes
none. -/
def State.pwmReady (s : State) : Bool :=
  !s.fault.pwmZeroPeriod && !s.fault.zeroDelay &&
    match s.pwmPhase with
    | .snap => true
    | .start => delayOver .pwm (scaled s.cct s.cfg.pwmShift) s
    | .fall => delayOver .pwm (scaled s.snapH s.cfg.pwmShift) s

/-- The command DEC has latched, run at the instant of its fetch (R180, R182); a reserved opcode does nothing (R97). -/
def runLatched (s : State) : Host.Outcome State Fault Refusal :=
  match decodeFields s.cfg.hasCs s.decOp s.decPayload with
  | .command i => exec i s
  | .reserved _ => .next s.decIdle

/-- DEC's step (R180). -/
def decStep (s : State) : Host.Outcome State Fault Refusal :=
  match s.decState with
  | .idle =>
    match exec .fetch s with
    | .next t => runLatched t
    | .fault r => .fault r
    | .refused r => .refused r
  | .xfer => exec (.transfer s.wbyte) s
  | .publish => exec .publish s

/-- PWM's step (R174). -/
def pwmStep (s : State) : Host.Outcome State Fault Refusal := exec .pwmCycle s

/-- One step of the agent whose turn it is: HOST first, then DEC, then PWM, and TB when no agent of the block can step
(R214, R129).  DESIGN CHOICE (log entry 12): the reset falls in the HOST's turn, before DEC's and PWM's steps of its
instant.  A state with a fault mark ends here once its instant is over: nothing is specified after it (R211; log
entry 9). -/
def agentStep (s : State) : Host.Outcome State Fault Refusal :=
  if s.hostReady && !s.fault.any then hostStep s
  else if s.decReady then decStep s
  else if s.pwmReady then pwmStep s
  else if s.fault.any then .fault (.undefinedBehaviour s.fault)
  else .next s.tick

/-- The deadline DEC waits for, or the present instant (R220). -/
def State.decDeadline (s : State) : Nat :=
  match s.decState with
  | .idle => s.ticks
  | .xfer => s.spiClk + s.cfg.halfTicks
  | .publish => s.ticks

/-- The deadline PWM waits for, or the present instant (R220). -/
def State.pwmDeadline (s : State) : Nat :=
  match s.pwmPhase with
  | .snap => s.ticks
  | .start => s.pwmClk + scaled s.cct s.cfg.pwmShift
  | .fall => s.pwmClk + scaled s.snapH s.cfg.pwmShift

/-- The tick counter and every deadline fit `TICK_W` bits (R127, R248). -/
def State.ticksFit (s : State) : Bool :=
  tickFits s.cfg s.ticks && tickFits s.cfg s.decDeadline && tickFits s.cfg s.pwmDeadline

/-- The rules hold only while every tick count fits the counter (R127, U7): a step that leaves it is refused. -/
def withinTicks (o : Host.Outcome State Fault Refusal) : Host.Outcome State Fault Refusal :=
  match o with
  | .next t => if t.ticksFit then .next t else .refused (.tickRange (t.cfg.tickW.getD 0))
  | .fault r => .fault r
  | .refused r => .refused r

/-- `s` at an instant at which the HOST has just posted the word `w` and DEC is idle, with no fault: the next step
fetches and runs `w` (R63, R181). -/
def State.postWord (s : State) (w : Word) : State :=
  { s with cmdWord := w, cmdValid := true, decState := .idle, hostDone := true, fault := .empty }

end Sys2Proof.Machine
end

