-- ==== Sys2Proof/Machine/Step.lean ====
section
/-! DEFINITION. The step of the machine, and the placing of a command where the next step fetches it. -/

namespace Sys2Proof.Machine

/-- One step: one step of one agent (60_exceptions.md rules R214, R222). -/
def step (s : State) : Host.Outcome State Fault Refusal := withinTicks (agentStep s)

/-- `s` with the command word of a table row in the mailbox, as a HOST's write of `CMD` at this instant leaves it
(log entry 8). -/
def State.withFetchWord (s : State) (nbits w : Nat) : State :=
  s.postWord (BitVec.ofNat 32 (w % 2 ^ nbits))

end Sys2Proof.Machine
end

