-- ==== Sys2Proof/Machine/Assembler.lean ====
section
/-! DEFINITION. The textual syntax of 30_encoding.md rule R103 for HOST programs: a mnemonic with an unsigned operand,
the pseudo-commands, `POST` and `TAKE`, and comments (log entry 13). -/

namespace Sys2Proof.Machine

/-- One digit in a base. -/
def digitOf (base : Nat) (c : Char) : Option Nat :=
  let n := c.toNat
  let d := if 48 ≤ n ∧ n ≤ 57 then n - 48 else if 65 ≤ n ∧ n ≤ 70 then n - 55 else if 97 ≤ n ∧ n ≤ 102 then n - 87 else base
  if d < base then some d else none

/-- The digits of a number, most significant first, after `acc`. -/
def digitsOf (base : Nat) : List Char → Nat → Option Nat
  | [], acc => some acc
  | c :: cs, acc =>
    match digitOf base c with
    | some d => digitsOf base cs (acc * base + d)
    | none => none

/-- An unsigned operand in decimal, `0x` hexadecimal or `0b` binary. -/
def numberOf : List Char → Option Nat
  | [] => none
  | '0' :: 'x' :: c :: cs => digitsOf 16 (c :: cs) 0
  | '0' :: 'b' :: c :: cs => digitsOf 2 (c :: cs) 0
  | c :: cs => digitsOf 10 (c :: cs) 0

/-- An operand that fits `n` bits. -/
def operandOf (n : Nat) (cs : List Char) : Option (BitVec n) :=
  match numberOf cs with
  | some v => if v < 2 ^ n then some (BitVec.ofNat n v) else none
  | none => none

/-- The words of a line, separated by blanks, a comma being a word of its own; `cur` is the word under way, in
reverse. -/
def wordsOf : List Char → List Char → List (List Char)
  | [], cur => if cur.isEmpty then [] else [cur.reverse]
  | c :: cs, cur =>
    if c = ';' then (if cur.isEmpty then [] else [cur.reverse])
    else if c = ' ' ∨ c = '\t' then (if cur.isEmpty then wordsOf cs [] else cur.reverse :: wordsOf cs [])
    else if c = ',' then (if cur.isEmpty then [','] :: wordsOf cs [] else cur.reverse :: [','] :: wordsOf cs [])
    else wordsOf cs (c :: cur)

/-- A command by its mnemonic (R96) and operand. -/
def commandOf (m : List Char) (operand : List Char) : Option Instr :=
  if m = "SET_PERIOD".toList then (operandOf 24 operand).map .setPeriod
  else if m = "SET_HIGH_TIME".toList then (operandOf 24 operand).map .setHighTime
  else if m = "SET_POLARITY".toList then (operandOf 24 operand).map .setPolarity
  else if m = "TRANSFER_NOW".toList then (operandOf 8 operand).map .transferNow
  else if m = "SET_PHASE".toList then (operandOf 24 operand).map .setPhase
  else if m = "SET_CS".toList then (operandOf 1 operand).map fun v => .setCs (v.getLsbD 0)
  else none

/-- The words of a line as its meaning; a blank or comment line means nothing, a bare command means its `POST`.
DESIGN CHOICE (log entry 13): `POST` stands before a command only, as R103 writes it; before a pseudo-command
(`POST SELECT`, `POST SET_MODE c, a`), on which R103 is silent, the program is refused. -/
def lineOf : List (List Char) → Option (List HostLine)
  | [] => some []
  | [m] =>
    if m = "SELECT".toList then some [.select]
    else if m = "DESELECT".toList then some [.deselect]
    else none
  | [m, x] =>
    if m = "TAKE".toList then some [.take]
    else (commandOf m x).map fun i => [.command i]
  | [p, m, x] =>
    if p = "POST".toList then (commandOf m x).map fun i => [.command i] else none
  | [m, c, comma, a] =>
    if m = "SET_MODE".toList ∧ comma = [','] then
      match operandOf 24 c, operandOf 24 a with
      | some vc, some va => some [.setMode vc va]
      | _, _ => none
    else none
  | _ => none

/-- A HOST program given as its lines of text. -/
def assemble : List String → Option (List HostLine)
  | [] => some []
  | l :: ls =>
    match lineOf (wordsOf l.toList []), assemble ls with
    | some a, some rest => some (a ++ rest)
    | _, _ => none

end Sys2Proof.Machine
end

