-- ==== Sys2Proof/Safety.lean ====
section
/-! DEFINITION. What the claims speak of: what a polling HOST has seen, the invariant of the
ClockStates, the waveform of a transfer as the table of 41_spi_transfer.md rule R132 gives it, and the start of the
next PWM cycle. -/

namespace Sys2Proof.Machine

/-- The HOST's step, if it is the next one, is the block's reset (R232). -/
def State.resetComes (s : State) : Bool :=
  s.hostReady && !s.fault.any &&
    match s.hostScript with
    | (_, .reset _) :: _ => true
    | _ => false

/-- No agent of the block has a step and the HOST has no access to make: the instant is over (R129, R214). -/
def State.quiet (s : State) : Bool := !s.hostReady && !s.decReady && !s.pwmReady

/-- What a polling HOST has seen still holds (R79, R103): between the poll and the access it allows nothing but the HOST
itself can fill the mailbox, and nothing but the HOST can take the response. -/
def State.pollHolds (s : State) : Prop :=
  match s.hostScript with
  | (_, .post _) :: _ => s.hostPolled = true → s.cmdValid = false
  | (_, .take) :: _ => s.hostPolled = true → s.respValid = true
  | _ => s.hostPolled = false

/-- What R128 says of `spi_clk`, at the places DEC can stand: inside a transfer DEC waits for a deadline that is not
passed, in a slot of the transfer (R27, R131). -/
def State.decTimely (s : State) : Prop :=
  match s.decState with
  | .idle => True
  | .xfer => 1 ≤ s.spiSlot.toNat ∧ s.spiSlot.toNat ≤ slotCount s.cpha ∧
      s.spiClk ≤ s.ticks ∧ s.ticks ≤ s.spiClk + s.cfg.halfTicks
  | .publish => True

/-- What R128, R163, R164 and R169 say of PWM's own registers at the places PWM can stand. -/
def State.pwmTimely (s : State) : Prop :=
  match s.pwmPhase with
  | .snap => s.pwmClk = s.ticks ∧ (s.fault.pwmZeroPeriod = true ∨ s.cct.toNat ≤ s.snapP.toNat)
  | .start => s.pwmClk ≤ s.ticks ∧ s.ticks ≤ s.pwmClk + scaled s.cct s.cfg.pwmShift ∧
      1 ≤ s.snapP.toNat ∧ s.snapH.toNat ≤ s.snapP.toNat
  | .fall => s.pwmClk ≤ s.ticks ∧ s.ticks ≤ s.pwmClk + scaled s.snapH s.cfg.pwmShift ∧
      1 ≤ s.snapH.toNat ∧ s.snapH.toNat < s.snapP.toNat

/-- The invariant of the ClockStates: no deadline is ever passed, and no delay of 0 ticks is ever asked for
(R123, R128, R129, R170). -/
def State.Timely (s : State) : Prop :=
  s.cfg.wf = true ∧ s.fault.zeroDelay = false ∧ s.decTimely ∧ s.pwmTimely

/-- The clock level a slot writes (R132): `c` in the dummy and return slots, `c ^ a` in a drive slot, its complement
in a sample slot. -/
def slotClock (c a : Bool) (k : Nat) : Bool :=
  if a then (if k % 2 = 0 then !c else c)
  else if k = 0 ∨ k = 17 then c else if k % 2 = 1 then c else !c

/-- The level of `mosi` after the action of slot `k` (R132): the bit last driven. -/
def slotData (w : Byte) (a : Bool) (k : Nat) : Bool :=
  if a then bitOf w (7 - k / 2) else bitOf w (7 - (k - 1) / 2)

/-- The slot that samples the `j`-th bit (R139). -/
def sampleSlot (a : Bool) (j : Nat) : Nat := if a then 2 * j + 1 else 2 * j + 2

/-- How many bits have been sampled in the slots before slot `k` (R132). -/
def sampledBefore (a : Bool) (k : Nat) : Nat := if a then k / 2 else (k - 1) / 2

/-- Inside a transfer the two SPI outputs are what the last slot wrote, and from its return to the next transfer of
the same polarity the clock line idles at `cpol` (R132, R141). -/
def State.onTheWire (s : State) : Prop :=
  match s.decState with
  | .idle => True
  | .xfer => 1 ≤ s.spiSlot.toNat ∧ s.spiSlot.toNat ≤ slotCount s.cpha ∧
      s.sclk = slotClock s.cpol s.cpha (s.spiSlot.toNat - 1) ∧
      s.mosi = slotData s.wbyte s.cpha (s.spiSlot.toNat - 1)
  | .publish => s.sclk = s.cpol

/-- SLAVE presents the byte `b` to a transfer started at `T0`: its table has bit `7-j` at the `j`-th sample instant
(R139, R251), or it is a wire from `mosi` and `b` is the byte written (R148). -/
def State.slaveSends (s : State) (T0 : Nat) (b : Byte) : Prop :=
  match s.slave with
  | .table levels => ∀ j, j < 8 → levels.lookup (T0 + sampleSlot s.cpha j * s.cfg.halfTicks) = some (bitOf b (7 - j))
  | .echo => b = s.wbyte

/-- DEC is inside a transfer of `w` started at `T0` from a SLAVE that sends `b`: it waits in the slot its ClockState
says (R131), the outputs are those of the table (R132), and the accumulator holds the bits sampled so far (R139). -/
def State.transferring (s : State) (T0 : Nat) (w b : Byte) : Prop :=
  s.decState = .xfer ∧ s.wbyte = w ∧ s.slaveSends T0 b ∧
    1 ≤ s.spiSlot.toNat ∧ s.spiSlot.toNat ≤ slotCount s.cpha ∧
    s.spiClk = T0 + (s.spiSlot.toNat - 1) * s.cfg.halfTicks ∧
    s.spiClk ≤ s.ticks ∧ s.ticks ≤ s.spiClk + s.cfg.halfTicks ∧
    s.sclk = slotClock s.cpol s.cpha (s.spiSlot.toNat - 1) ∧
    s.mosi = slotData w s.cpha (s.spiSlot.toNat - 1) ∧
    s.racc = b >>> (8 - sampledBefore s.cpha s.spiSlot.toNat)

/-- The instant of the first pin action of the PWM cycle that is to begin next (`A_n` of R171). -/
def State.nextStart (s : State) : Nat :=
  match s.pwmPhase with
  | .snap => s.pwmClk + scaled s.cct s.cfg.pwmShift
  | .start => s.pwmClk + scaled s.cct s.cfg.pwmShift
  | .fall => s.pwmClk + scaled s.snapP s.cfg.pwmShift

/-- Two states are the same to PWM: its own registers, the shared pair with what it may still read of it, the time,
the parameters, and the free orders drawn. -/
def State.samePwm (s t : State) : Prop :=
  s.ticks = t.ticks ∧ s.cfg = t.cfg ∧ s.period = t.period ∧ s.highTime = t.highTime ∧
    s.periodPrev = t.periodPrev ∧ s.highPrev = t.highPrev ∧ s.raceDraw = t.raceDraw ∧
    s.pwmClk = t.pwmClk ∧ s.cct = t.cct ∧ s.pwmPhase = t.pwmPhase ∧ s.snapP = t.snapP ∧ s.snapH = t.snapH ∧
    s.pwmOut = t.pwmOut ∧ s.fault.pwmZeroPeriod = t.fault.pwmZeroPeriod ∧ s.fault.zeroDelay = t.fault.zeroDelay

/-- PWM's own registers and pin (R52), and the time. -/
def State.sameWaveform (s t : State) : Prop :=
  s.ticks = t.ticks ∧ s.pwmClk = t.pwmClk ∧ s.cct = t.cct ∧ s.pwmPhase = t.pwmPhase ∧
    s.snapP = t.snapP ∧ s.snapH = t.snapH ∧ s.pwmOut = t.pwmOut

/-- DEC's and the mailbox's registers and the SPI pins (R52). -/
def State.sameDecoder (s t : State) : Prop :=
  s.cmdWord = t.cmdWord ∧ s.cmdValid = t.cmdValid ∧ s.respByte = t.respByte ∧ s.respValid = t.respValid ∧
    s.decOp = t.decOp ∧ s.decPayload = t.decPayload ∧ s.decState = t.decState ∧ s.spiSlot = t.spiSlot ∧
    s.cpol = t.cpol ∧ s.cpha = t.cpha ∧ s.wbyte = t.wbyte ∧ s.racc = t.racc ∧ s.spiClk = t.spiClk ∧
    s.sclk = t.sclk ∧ s.mosi = t.mosi ∧ s.csN = t.csN

/-- The pair a HOST writes through DEC (R52). -/
def State.samePair (s t : State) : Prop := s.period = t.period ∧ s.highTime = t.highTime

/-- The environment that a step of the block itself leaves alone. -/
def State.sameEnvironment (s t : State) : Prop :=
  s.cfg = t.cfg ∧ s.slave = t.slave ∧ s.hostScript = t.hostScript ∧ s.hostPolled = t.hostPolled ∧
    s.hostLog = t.hostLog

end Sys2Proof.Machine
end

