-- ==== Sys2Proof/Certificates/Slice0/Obligations.lean ====
section
/-! DEFINITION. The statements for the provers. -/

open Sys2Proof Sys2Proof.Machine

/-! ## Encoding -/

/-- 30_encoding.md rule R102, its examples, and vectors VE6, VE8, VE9, VE10 and VE12 of 95_test_vectors.md: words written
out from the layout of R90 decode to the commands they stand for. -/
def Obligations.WrittenWordsDecode : Prop :=
  decode true 0x010003E8 = .command (.setPeriod 1000) ∧
  decode true 0x01FFFFFF = .command (.setPeriod 16777215) ∧
  decode true 0x020000FA = .command (.setHighTime 250) ∧
  decode true 0x03000001 = .command (.setPolarity 1) ∧
  decode true 0x0400004A = .command (.transferNow 0x4A) ∧
  decode true 0x04ABCD4A = .command (.transferNow 0x4A) ∧
  decode true 0x05000001 = .command (.setPhase 1) ∧
  decode true 0x06000000 = .command (.setCs false) ∧
  decode true 0x06FFFFFE = .command (.setCs false) ∧
  decode false 0x06000001 = .reserved 0x06 ∧
  decode true 0x00000000 = .reserved 0x00 ∧
  decode true 0x07000000 = .reserved 0x07 ∧
  decode true 0xFF123456 = .reserved 0xFF

/-- R102 with R91 and R96: the word of a command decodes to it, with every operand at every value; and a word that
decodes to a command differs from that command's own word only in payload bits the block ignores, which are 0 there. -/
def Obligations.DecodeAndEncodeAgree : Prop :=
  (∀ (hasCs : Bool) (i : Instr) (w : Word), encode i = some w → (∀ v, i = .setCs v → hasCs = true) →
    decode hasCs w = .command i) ∧
  (∀ (hasCs : Bool) (i : Instr) (w : Word), decode hasCs w = .command i →
    ∃ w', encode i = some w' ∧ decode hasCs w' = .command i ∧ opcodeOf w' = opcodeOf w ∧ w' &&& w = w')

/-- R96, R97, R102: decoding is total, and reserved are exactly the opcodes 0x00, 0x07 to 0xFF, and 0x06 in a block
without chip-select; a reserved word is rejected by its opcode. -/
def Obligations.ReservedOpcodesAreTheOthers : Prop :=
  ∀ (hasCs : Bool) (w : Word),
    ((∃ op, decode hasCs w = .reserved op) ↔
      ((opcodeOf w).toNat = 0 ∨ 7 ≤ (opcodeOf w).toNat ∨ ((opcodeOf w).toNat = 6 ∧ hasCs = false))) ∧
    (∀ op, decode hasCs w = .reserved op → op = opcodeOf w)

/-- R101: the internal operations have no word, and no word decodes to one. -/
def Obligations.InternalOperationsHaveNoWord : Prop :=
  ∀ (hasCs : Bool) (w : Word) (i : Instr),
    (∃ c, i = .now c) ∨ (∃ c inc, i = .delayUntil c inc) ∨ (∃ b, i = .transfer b) ∨ i = .pwmCycle ∨ i = .fetch ∨
      i = .publish →
    encode i = none ∧ decode hasCs w ≠ .command i

/-! ## The step -/

/-- R180, R181, R182: when DEC is idle, a command is pending and the HOST has no access to make, the step latches the
word and runs the command it decodes to, at the same instant.  `withinTicks` is the model's own check that every tick
count still fits `TICK_W` bits (log entry 2). -/
def Obligations.StepRunsTheFetchedCommand : Prop :=
  ∀ (s : State) (i : Instr),
    s.hostReady = false → s.decState = .idle → s.cmdValid = true →
    s.fault.badModeValue = false → s.fault.zeroDelay = false →
    decode s.cfg.hasCs s.cmdWord = .command i →
    step s = withinTicks (exec i { s with
      decOp := s.cmdWord.extractLsb' 24 8, decPayload := s.cmdWord.extractLsb' 0 24, cmdValid := false })

/-- R97 (vector VD7): a command with a reserved opcode, `0x00`, `0x07` to `0xFF`, or `0x06` in a block without
chip-select, is fetched like any other, which latches it and frees the mailbox, and changes nothing else: no response,
no mark, and DEC is back in `IDLE` at the same instant. -/
def Obligations.ReservedCommandIsDropped : Prop :=
  ∀ s : State,
    s.hostReady = false → s.decState = .idle → s.cmdValid = true →
    s.fault.badModeValue = false → s.fault.zeroDelay = false → s.ticksFit = true →
    ((s.cmdWord.extractLsb' 24 8).toNat = 0 ∨ 7 ≤ (s.cmdWord.extractLsb' 24 8).toNat ∨
      ((s.cmdWord.extractLsb' 24 8).toNat = 6 ∧ s.cfg.hasCs = false)) →
    step s = .next { s with
      decOp := s.cmdWord.extractLsb' 24 8, decPayload := s.cmdWord.extractLsb' 0 24, cmdValid := false }

/-- Log entry 8 (the model's choice): the state the host places a command word in fetches and runs it next. -/
def Obligations.PlacedWordRunsNext : Prop :=
  ∀ (s : State) (w : Nat) (i : Instr), decode s.cfg.hasCs (BitVec.ofNat 32 w) = .command i → w < 2 ^ 32 →
    step (s.withFetchWord 32 w) = withinTicks (exec i (s.withFetchWord 32 w).latchCommand)

/-- R214, R129: the order inside an instant.  The HOST comes first; then DEC; then PWM; TB advances the tick only when
none of them has a step.  Five parts of it are the model's and no rule's: the HOST's turn is that of its script (log
entry 5); the reset is an action of that script, so clause 1 puts a reset too before DEC's and PWM's steps of its instant
(log entry 12, DESIGN CHOICE); clauses 2 and 3 have no premise on the fault set, so in a marked state the agent without
a fault of its own still steps (log entry 9, DEDUCED); every step is under the check that tick counts fit (log entry 2,
DESIGN CHOICE); `periodPrev` and `highPrev` keep the values before this instant's writes (log entry 3). -/
def Obligations.AgentsTakeTurnsInOrder : Prop :=
  (∀ s : State, s.hostReady = true → s.fault.any = false → step s = withinTicks (hostStep s)) ∧
  (∀ s : State, s.hostReady = false → s.decReady = true → step s = withinTicks (decStep s)) ∧
  (∀ s : State, s.hostReady = false → s.decReady = false → s.pwmReady = true →
    step s = withinTicks (exec .pwmCycle s)) ∧
  (∀ s : State, s.quiet = true → s.fault.any = false →
    step s = withinTicks (.next { s with
      ticks := s.ticks + 1, hostDone := false, periodPrev := s.period, highPrev := s.highTime }))

/-- R129, R216: the exact conditions under which DEC and PWM have a step, in a state without a fault. -/
def Obligations.WhenAnAgentHasAStep : Prop :=
  ∀ s : State, s.fault.any = false →
    (s.decReady = true ↔
      (s.decState = .idle ∧ s.cmdValid = true) ∨
      (s.decState = .xfer ∧ (s.cfg.halfTicks = 0 ∨ s.spiClk + s.cfg.halfTicks ≤ s.ticks)) ∨
      (s.decState = .publish ∧ s.respValid = false)) ∧
    (s.pwmReady = true ↔
      s.pwmPhase = .snap ∨
      (s.pwmPhase = .start ∧ (s.cct.toNat = 0 ∨ s.pwmClk + s.cct.toNat * 2 ^ s.cfg.pwmShift ≤ s.ticks)) ∨
      (s.pwmPhase = .fall ∧ (s.snapH.toNat = 0 ∨ s.pwmClk + s.snapH.toNat * 2 ^ s.cfg.pwmShift ≤ s.ticks)))

/-- R127, R248, 93_implementation_defined.md U7: in a block with a counter of `w` bits an agent's step after which the
tick count or a deadline under way is at `2^w` or above is refused, so that a state a step answers has all three below;
every other step of an agent, and every one with an unbounded counter, stands as it is.  (That the last instant
`2^w - 1` is still run is log entry 2.) -/
def Obligations.WrapOfTheCounterIsRefused : Prop :=
  (∀ (s t : State) (w : Nat), agentStep s = .next t → t.cfg.tickW = some w →
    (2 ^ w ≤ t.ticks ∨ 2 ^ w ≤ t.decDeadline ∨ 2 ^ w ≤ t.pwmDeadline) → step s = .refused (.tickRange w)) ∧
  (∀ (s t : State) (w : Nat), step s = .next t → t.cfg.tickW = some w →
    t.ticksFit = true ∧ t.ticks < 2 ^ w ∧ t.decDeadline < 2 ^ w ∧ t.pwmDeadline < 2 ^ w) ∧
  (∀ s t : State, agentStep s = .next t →
    (∀ w, t.cfg.tickW = some w → t.ticks < 2 ^ w ∧ t.decDeadline < 2 ^ w ∧ t.pwmDeadline < 2 ^ w) →
    step s = .next t)

/-! ## The commands -/

/-- R172, R173: `SET_PERIOD` and `SET_HIGH_TIME` write their one field with the whole payload, whatever its value, and
return DEC to `IDLE`; nothing else changes. -/
def Obligations.PwmCommandsWriteTheirField : Prop :=
  (∀ (n : Payload) (s : State), exec (.setPeriod n) s = .next { s with period := n, decState := .idle }) ∧
  (∀ (n : Payload) (s : State), exec (.setHighTime n) s = .next { s with highTime := n, decState := .idle })

/-- R145, R146: a mode command with payload 0 or 1 writes bit 0 to its mode register and returns DEC to `IDLE`; nothing
else changes, `sclk` not either. -/
def Obligations.ModeCommandsWriteTheirRegister : Prop :=
  (∀ (v : Payload) (s : State), v.toNat ≤ 1 →
    exec (.setPolarity v) s = .next { s with cpol := v.getLsbD 0, decState := .idle }) ∧
  (∀ (v : Payload) (s : State), v.toNat ≤ 1 →
    exec (.setPhase v) s = .next { s with cpha := v.getLsbD 0, decState := .idle })

/-- R98, R145, R146, R46: a mode command with a payload above 1 marks `BadModeValue`.  That the command answers a next
state, with DEC back in `IDLE` and the mode registers and all else kept, is the model's reading (log entry 9, DEDUCED):
U14 makes no claim of the state after a fault. -/
def Obligations.BadModeValueIsMarked : Prop :=
  ∀ (v : Payload) (s : State), 1 < v.toNat →
    exec (.setPolarity v) s = .next { s with fault := { s.fault with badModeValue := true }, decState := .idle } ∧
    exec (.setPhase v) s = .next { s with fault := { s.fault with badModeValue := true }, decState := .idle }

/-- R147: `SET_CS v` drives `cs_n` to `v`, and nothing else, in a block that has the pin.  In a block without it no word
decodes to `SET_CS`; that a direct call there changes nothing but DEC's place is the model's choice (log entry 11). -/
def Obligations.SetCsDrivesChipSelect : Prop :=
  (∀ (v : Bool) (s : State), s.cfg.hasCs = true → exec (.setCs v) s = .next { s with csN := v, decState := .idle }) ∧
  (∀ (v : Bool) (s : State), s.cfg.hasCs = false → exec (.setCs v) s = .next { s with decState := .idle })

/-- R133, R134, R135, R144: `TRANSFER_NOW`, and the call of `transfer` it makes, start a transfer at this instant and
act slot 0: in phase 0 the idle level and bit 7, in phase 1 the active level and bit 7.  Nothing else changes. -/
def Obligations.TransferStartsWithSlotZero : Prop :=
  ∀ (b : Byte) (s : State),
    (exec (.transferNow b) s = .next { s with
      spiClk := s.ticks, wbyte := b, racc := 0, spiSlot := 1, decState := .xfer,
      sclk := if s.cpha then !s.cpol else s.cpol, mosi := b.getLsbD 7 }) ∧
    (s.decState ≠ .xfer → exec (.transfer b) s = exec (.transferNow b) s)

/-- R132 to R138, R144: what the transfer under way does when the deadline of its slot is reached, for every slot of
both phases.  The ClockState takes the deadline, the slot number goes up by one, and the slot acts: a drive slot puts
its bit on `mosi` with the clock at `cpol ^ cpha`, a sample slot shifts `miso` into `racc` with the clock at the
complement, the return slot brings the clock to `cpol`; after the last slot the transfer returns and DEC goes to
publish.  Nothing else changes (`misoDraw` is the model's own count of samples, log entry 4).  That a call
inside a transfer resumes it, whatever byte it names, is the model's form of the slot loop (log entry 7). -/
def Obligations.SlotsActAsTheTableSays : Prop :=
  ∀ (w : Byte) (s : State), s.decState = .xfer → 1 ≤ s.cfg.halfTicks → s.spiClk + s.cfg.halfTicks ≤ s.ticks →
    let next : State := { s with spiClk := s.spiClk + s.cfg.halfTicks, spiSlot := s.spiSlot + 1 }
    let sampled : Byte := s.racc.extractLsb' 0 7 ++ BitVec.ofBool s.pinRead
    (s.cpha = false →
      (∀ j, j < 8 → s.spiSlot.toNat = 1 + 2 * j →
        exec (.transfer w) s = .next { next with sclk := s.cpol, mosi := s.wbyte.getLsbD (7 - j) }) ∧
      (∀ j, j < 8 → s.spiSlot.toNat = 2 + 2 * j →
        ∃ d, exec (.transfer w) s = .next { next with sclk := !s.cpol, racc := sampled, misoDraw := d }) ∧
      (s.spiSlot.toNat = 17 → exec (.transfer w) s = .next { next with sclk := s.cpol }) ∧
      (s.spiSlot.toNat = 18 → exec (.transfer w) s =
        .next { s with spiClk := s.spiClk + s.cfg.halfTicks, decState := .publish })) ∧
    (s.cpha = true →
      (∀ j, j < 8 → s.spiSlot.toNat = 2 * j →
        exec (.transfer w) s = .next { next with sclk := !s.cpol, mosi := s.wbyte.getLsbD (7 - j) }) ∧
      (∀ j, j < 8 → s.spiSlot.toNat = 2 * j + 1 →
        ∃ d, exec (.transfer w) s = .next { next with sclk := s.cpol, racc := sampled, misoDraw := d }) ∧
      (s.spiSlot.toNat = 16 → exec (.transfer w) s =
        .next { s with spiClk := s.spiClk + s.cfg.halfTicks, decState := .publish }))

/-- R121, R138: before the deadline of its slot a transfer under way waits and nothing changes. -/
def Obligations.TransferWaitsForItsDeadline : Prop :=
  ∀ (w : Byte) (s : State), s.decState = .xfer → s.ticks < s.spiClk + s.cfg.halfTicks → 1 ≤ s.cfg.halfTicks →
    exec (.transfer w) s = .next s

/-- R140, R148: a sample sees what SLAVE presents at this instant; a wire presents `mosi` as it stands. -/
def Obligations.SampleSeesThePresentLevel : Prop :=
  ∀ s : State,
    (s.slave = .echo → s.pinRead = s.mosi) ∧
    (∀ levels b, s.slave = .table levels → levels.lookup s.ticks = some b → s.pinRead = b)

/-- R39, R93 (vector VE13): the packed word is 3 bits, the clock in bit 2, 0 in bit 1, the data in bit 0. -/
def Obligations.PackedWordIsClockZeroData : Prop :=
  ∀ s : State, s.gpo.getLsbD 2 = s.sclk ∧ s.gpo.getLsbD 1 = false ∧ s.gpo.getLsbD 0 = s.mosi

/-- R142: the time a transfer takes does not depend on the byte written, on `cpol`, on what `miso` carries, nor on any
other register: two transfers that stand in the same slot of the same phase at the same instant go on at the same
instants. -/
def Obligations.TransferTimingIgnoresTheData : Prop :=
  ∀ s t : State, s.decState = .xfer → t.decState = .xfer → s.ticks = t.ticks → s.spiClk = t.spiClk →
    s.spiSlot = t.spiSlot → s.cpha = t.cpha → s.cfg = t.cfg → s.fault = t.fault →
    s.decReady = t.decReady ∧
    ∀ (v w : Byte) (s' t' : State), exec (.transfer v) s = .next s' → exec (.transfer w) t = .next t' →
      s'.decState = t'.decState ∧ s'.ticks = t'.ticks ∧ s'.spiClk = t'.spiClk ∧ s'.spiSlot = t'.spiSlot ∧
      s'.cpha = t'.cpha ∧ s'.cfg = t'.cfg ∧ s'.fault = t'.fault

/-! ## The Timebase -/

/-- R120: `now()` returns the tick count; the ClockState named takes it and nothing else changes. -/
def Obligations.NowReadsTheTicks : Prop :=
  ∀ s : State,
    exec (.now .spi) s = .next { s with spiClk := s.ticks } ∧ exec (.now .pwm) s = .next { s with pwmClk := s.ticks }

/-- R121, R123, R124: `delay_until` with its deadline reached puts the deadline, counted from the ClockState, into it;
with its deadline ahead it waits; with a length of 0 it marks `ZeroDelay`.  Nothing else changes. -/
def Obligations.DelayUntilCountsFromTheClockState : Prop :=
  ∀ (inc : Nat) (s : State),
    (1 ≤ inc → s.spiClk + inc ≤ s.ticks → exec (.delayUntil .spi inc) s = .next { s with spiClk := s.spiClk + inc }) ∧
    (1 ≤ inc → s.pwmClk + inc ≤ s.ticks → exec (.delayUntil .pwm inc) s = .next { s with pwmClk := s.pwmClk + inc }) ∧
    (s.ticks < s.spiClk + inc → 1 ≤ inc → exec (.delayUntil .spi inc) s = .next s) ∧
    (s.ticks < s.pwmClk + inc → 1 ≤ inc → exec (.delayUntil .pwm inc) s = .next s) ∧
    (∀ c, exec (.delayUntil c 0) s = .next { s with fault := { s.fault with zeroDelay := true } })

/-! ## The decoder's own steps -/

/-- R181: the fetch copies the two fields of the command word and frees the mailbox; nothing else changes. -/
def Obligations.FetchLatchesTheCommand : Prop :=
  ∀ s : State, exec .fetch s = .next { s with
    decOp := s.cmdWord.extractLsb' 24 8, decPayload := s.cmdWord.extractLsb' 0 24, cmdValid := false }

/-- R189: with the response register free the publish fills it, sets `resp_valid` and returns DEC to `IDLE`; while the
previous response is unread DEC stands in `PUBLISH` and nothing else changes. -/
def Obligations.PublishWaitsForAFreeRegister : Prop :=
  ∀ s : State,
    (s.respValid = false →
      exec .publish s = .next { s with respByte := s.racc, respValid := true, decState := .idle }) ∧
    (s.respValid = true → exec .publish s = .next { s with decState := .publish })

/-- R189, R216: while DEC stands in `PUBLISH` with the response unread and the HOST makes no access, whatever step the
machine takes leaves DEC there, the response and the pending command untouched. -/
def Obligations.UnreadResponseHoldsTheDecoder : Prop :=
  ∀ s t : State, s.decState = .publish → s.respValid = true → s.hostReady = false → step s = .next t →
    t.sameDecoder s

/-! ## The PWM generator -/

/-- R73, R74, R162, R163, R164: the snapshot.  Each field read is its present value, or, if the field was written at
this very instant, the value before that write; the high time is clamped to the period just read; a period of 0 marks
`PwmZeroPeriod`, any other leads to `START`.  Nothing else changes but what the model keeps of the race. -/
def Obligations.SnapshotReadsAndClampsThePair : Prop :=
  ∀ s : State, s.pwmPhase = .snap →
    ∃ p h hc : Payload,
      (p = s.period ∨ p = s.periodPrev) ∧ (h = s.highTime ∨ h = s.highPrev) ∧
      hc.toNat = min h.toNat p.toNat ∧
      (1 ≤ p.toNat → exec .pwmCycle s = .next { s with
        snapP := p, snapH := hc, pwmPhase := .start, periodPrev := p, highPrev := h, raceDraw := s.raceDraw + 2 }) ∧
      (p.toNat = 0 → exec .pwmCycle s = .next { s with
        snapP := p, snapH := hc, periodPrev := p, highPrev := h, raceDraw := s.raceDraw + 2,
        fault := { s.fault with pwmZeroPeriod := true } })

/-- R73(a), R175: without a write at this instant the snapshot is the present pair, clamped. -/
def Obligations.SnapshotWithoutARaceIsThePresentPair : Prop :=
  ∀ s : State, s.pwmPhase = .snap → s.periodPrev = s.period → s.highPrev = s.highTime → 1 ≤ s.period.toNat →
    ∃ t, exec .pwmCycle s = .next t ∧ t.snapP = s.period ∧
      t.snapH.toNat = min s.highTime.toNat s.period.toNat ∧ t.pwmPhase = .start

/-- R165 to R169: the first pin action of a cycle, when the owed wait is over or nothing is owed.  Always-on drives
high and owes the period; always-off drives low and owes the period; a general cycle drives high and goes to `FALL`.
The ClockState moves by the owed ticks and nothing else changes. -/
def Obligations.CycleStartActsByCase : Prop :=
  ∀ s : State, s.pwmPhase = .start →
    (s.cct.toNat = 0 ∨ s.pwmClk + s.cct.toNat * 2 ^ s.cfg.pwmShift ≤ s.ticks) →
    let at' : Nat := s.pwmClk + s.cct.toNat * 2 ^ s.cfg.pwmShift
    (s.snapP.toNat ≤ s.snapH.toNat →
      exec .pwmCycle s = .next { s with pwmClk := at', pwmOut := true, cct := s.snapP, pwmPhase := .snap }) ∧
    (s.snapH.toNat = 0 → 1 ≤ s.snapP.toNat →
      exec .pwmCycle s = .next { s with pwmClk := at', pwmOut := false, cct := s.snapP, pwmPhase := .snap }) ∧
    (0 < s.snapH.toNat → s.snapH.toNat < s.snapP.toNat →
      exec .pwmCycle s = .next { s with pwmClk := at', pwmOut := true, pwmPhase := .fall })

/-- R169: the fall of a general cycle: the output goes low, the rest of the period is owed, and the ClockState moves by
the scaled high time; before that instant PWM waits and nothing changes. -/
def Obligations.CycleFallOwesTheRest : Prop :=
  ∀ s : State, s.pwmPhase = .fall → 1 ≤ s.snapH.toNat →
    (s.pwmClk + s.snapH.toNat * 2 ^ s.cfg.pwmShift ≤ s.ticks →
      exec .pwmCycle s = .next { s with
        pwmClk := s.pwmClk + s.snapH.toNat * 2 ^ s.cfg.pwmShift, pwmOut := false, cct := s.snapP - s.snapH,
        pwmPhase := .snap }) ∧
    (s.ticks < s.pwmClk + s.snapH.toNat * 2 ^ s.cfg.pwmShift → exec .pwmCycle s = .next s)

/-- R165: before the owed ticks have passed PWM waits and nothing changes. -/
def Obligations.CycleStartWaitsTheOwedTime : Prop :=
  ∀ s : State, s.pwmPhase = .start → s.ticks < s.pwmClk + s.cct.toNat * 2 ^ s.cfg.pwmShift → 1 ≤ s.cct.toNat →
    exec .pwmCycle s = .next s

/-- R171, the no-drift law.  The first pin action of a cycle is the step that leaves `START`: it happens exactly at the
instant the cycle was to begin, and it puts the beginning of the next one exactly the cycle's period, scaled, later.
Along every other step but a reset the instant of the next cycle start stays where it is. -/
def Obligations.CycleStartsDoNotDrift : Prop :=
  ∀ s t : State, s.Timely → s.resetComes = false → step s = .next t →
    if s.pwmPhase = .start ∧ t.pwmPhase ≠ .start
      then s.ticks = s.nextStart ∧ t.ticks = s.ticks ∧
        t.nextStart = s.nextStart + s.snapP.toNat * 2 ^ s.cfg.pwmShift
      else t.nextStart = s.nextStart

/-- R177, the duty law: a cycle starts by driving high if its clamped high time is at least 1 and low if it is 0; a
general cycle falls exactly `snap_h << S` ticks after it rose: `pwm_clk` is the instant of the rise, and until the fall
neither it nor the snapshot changes; no other step but a reset moves the output. -/
def Obligations.OutputIsHighForTheHighTime : Prop :=
  ∀ s t : State, s.Timely → s.resetComes = false → step s = .next t →
    (t.pwmOut = s.pwmOut ∧ t.pwmPhase = s.pwmPhase ∧
      (s.pwmPhase ≠ .snap → t.pwmClk = s.pwmClk ∧ t.snapP = s.snapP ∧ t.snapH = s.snapH)) ∨
    (s.pwmPhase = .snap ∧ t.pwmPhase = .start ∧ t.pwmOut = s.pwmOut) ∨
    (s.pwmPhase = .start ∧ t.pwmOut = decide (1 ≤ s.snapH.toNat) ∧
      (if 1 ≤ s.snapH.toNat ∧ s.snapH.toNat < s.snapP.toNat
        then t.pwmPhase = .fall ∧ t.pwmClk = s.ticks ∧ t.snapP = s.snapP ∧ t.snapH = s.snapH
        else t.pwmPhase = .snap)) ∨
    (s.pwmPhase = .fall ∧ t.pwmOut = false ∧ t.pwmPhase = .snap ∧
      s.ticks = s.pwmClk + s.snapH.toNat * 2 ^ s.cfg.pwmShift)

/-- R178, R160: PWM reads nothing of DEC, of the mailbox or of the HOST.  Two states that agree on what is PWM's give it
a step at the same time, and the steps agree on its registers and its pin. -/
def Obligations.PwmIsNotHeldUpByTheDecoder : Prop :=
  ∀ s t : State, s.samePwm t →
    s.pwmReady = t.pwmReady ∧
    ∀ s' t', exec .pwmCycle s = .next s' → exec .pwmCycle t = .next t' → s'.samePwm t'

/-! ## Ownership -/

/-- R52, R187: a step of DEC leaves the time, PWM's registers and pin and the environment alone; it writes `period` only
in `SET_PERIOD` and `high_time` only in `SET_HIGH_TIME`; it never sets `cmd_valid` nor clears `resp_valid`. -/
def Obligations.DecoderWritesOnlyItsOwn : Prop :=
  ∀ s t : State, decStep s = .next t →
    s.sameWaveform t ∧ s.sameEnvironment t ∧ s.hostDone = t.hostDone ∧
    (t.period = s.period ∨
      (s.decState = .idle ∧ decode s.cfg.hasCs s.cmdWord = .command (.setPeriod t.period))) ∧
    (t.highTime = s.highTime ∨
      (s.decState = .idle ∧ decode s.cfg.hasCs s.cmdWord = .command (.setHighTime t.highTime))) ∧
    (t.cmdValid = true → s.cmdValid = true) ∧ (s.respValid = true → t.respValid = true) ∧ t.cmdWord = s.cmdWord

/-- R52, R160: a step of PWM leaves the time, the mailbox, DEC's registers, the SPI pins, the shared pair and the
environment alone. -/
def Obligations.PwmWritesOnlyItsOwn : Prop :=
  ∀ s t : State, exec .pwmCycle s = .next t →
    t.ticks = s.ticks ∧ s.sameDecoder t ∧ s.samePair t ∧ s.sameEnvironment t ∧ t.misoDraw = s.misoDraw ∧
    t.hostDone = s.hostDone ∧ t.fault.badModeValue = s.fault.badModeValue

/-- R52, R79: a step of the HOST other than the reset leaves the time, DEC's registers, the pins, PWM's registers, the
shared pair and the fault set alone; it never clears `cmd_valid` nor sets `resp_valid`. -/
def Obligations.HostReachesOnlyTheMailbox : Prop :=
  ∀ s t : State, hostStep s = .next t → (∀ at' slave rest, s.hostScript ≠ (at', .reset slave) :: rest) →
    s.sameWaveform t ∧ s.samePair t ∧ t.cfg = s.cfg ∧ t.fault = s.fault ∧ t.respByte = s.respByte ∧
    t.decState = s.decState ∧ t.decOp = s.decOp ∧ t.decPayload = s.decPayload ∧ t.spiSlot = s.spiSlot ∧
    t.cpol = s.cpol ∧ t.cpha = s.cpha ∧ t.wbyte = s.wbyte ∧ t.racc = s.racc ∧ t.spiClk = s.spiClk ∧
    t.sclk = s.sclk ∧ t.mosi = s.mosi ∧ t.csN = s.csN ∧
    (s.cmdValid = true → t.cmdValid = true ∧ t.cmdWord = s.cmdWord) ∧ (t.respValid = true → s.respValid = true)

/-- R75, R180, R183: while DEC is in a transfer or a publish, a step of the machine that is not the HOST's neither
fetches the pending command nor changes the command under way, the mode or the byte written. -/
def Obligations.NoCommandIsFetchedDuringATransfer : Prop :=
  ∀ s t : State, s.decState ≠ .idle → s.hostReady = false → step s = .next t →
    t.cmdWord = s.cmdWord ∧ t.cmdValid = s.cmdValid ∧ t.decOp = s.decOp ∧ t.decPayload = s.decPayload ∧
    t.cpol = s.cpol ∧ t.cpha = s.cpha ∧ t.wbyte = s.wbyte ∧ t.csN = s.csN ∧ s.samePair t

/-! ## The host port -/

/-- R64, R65, R66, and for `CMD` R67: what a read of each register returns and does.  Only `RESP` has a side effect: an
unread response is consumed; with none unread the last byte comes back and nothing changes. -/
def Obligations.RegisterReads : Prop :=
  ∀ s : State,
    (s.hostValue .cmd = 0 ∧ s.afterHostRead .cmd = s) ∧
    (s.hostValue .cmdReady = (if s.cmdValid then 0 else 1) ∧ s.afterHostRead .cmdReady = s) ∧
    (s.hostValue .resp = s.respByte.zeroExtend 32 ∧
      (s.respValid = true → s.afterHostRead .resp = { s with respValid := false }) ∧
      (s.respValid = false → s.afterHostRead .resp = s)) ∧
    (s.hostValue .respValid = (if s.respValid then 1 else 0) ∧ s.afterHostRead .respValid = s)

/-- R63: a write of `CMD` fills an empty mailbox; a full one drops it and keeps both its values. -/
def Obligations.CommandWrite : Prop :=
  ∀ (s : State) (v : Word),
    (s.cmdValid = false → s.afterHostWrite .cmd v = { s with cmdWord := v, cmdValid := true }) ∧
    (s.cmdValid = true → s.afterHostWrite .cmd v = s)

/-- R62, R64 to R67: what a word read of each host register gives the HOST, and its side effect: only `RESP` has one,
it clears `resp_valid`.  That the word goes to `hostLog` and the script moves on is the model's HOST (log entry 5). -/
def Obligations.HostReadsOfTheFourRegisters : Prop :=
  ∀ (s : State) (n size : Nat) (addr : Nat) (rest : List (Nat × HostAction)),
    s.hostScript = (n, .read addr size) :: rest → s.hostReady = true → s.fault.any = false → s.ticksFit = true →
    size = 4 →
    let after (v : Word) : State :=
      { s with hostLog := (s.ticks, v) :: s.hostLog, hostScript := rest, hostPolled := false, hostDone := true }
    (addr = s.cfg.hostBase + 0x0 → step s = .next (after 0)) ∧
    (addr = s.cfg.hostBase + 0x4 → step s = .next (after (if s.cmdValid then 0 else 1))) ∧
    (addr = s.cfg.hostBase + 0x8 → step s = .next { after (s.respByte.zeroExtend 32) with respValid := false }) ∧
    (addr = s.cfg.hostBase + 0xC → step s = .next (after (if s.respValid then 1 else 0)))

/-- R62, R63, R67: a word write of `CMD` fills an empty mailbox and is dropped by a full one; a write of any other
register is ignored.  The script is the model's HOST (log entry 5). -/
def Obligations.HostWritesOfTheFourRegisters : Prop :=
  ∀ (s : State) (n size : Nat) (addr : Nat) (v : Word) (rest : List (Nat × HostAction)),
    s.hostScript = (n, .write addr size v) :: rest → s.hostReady = true → s.fault.any = false → s.ticksFit = true →
    size = 4 →
    let after : State := { s with hostScript := rest, hostPolled := false, hostDone := true }
    (addr = s.cfg.hostBase + 0x0 → s.cmdValid = false →
      step s = .next { after with cmdWord := v, cmdValid := true }) ∧
    (addr = s.cfg.hostBase + 0x0 → s.cmdValid = true → step s = .next after) ∧
    (addr = s.cfg.hostBase + 0x4 ∨ addr = s.cfg.hostBase + 0x8 ∨ addr = s.cfg.hostBase + 0xC → step s = .next after)

/-- R67, R69 (vector VD9): an access outside the four registers, of another size than a word, or not aligned to a
word, has no meaning and is refused.  That an access outside is refused as such before its size is looked at is the
model's choice (log entry 11). -/
def Obligations.OtherHostAccessesAreRefused : Prop :=
  ∀ (s : State) (n addr size : Nat) (v : Word) (rest : List (Nat × HostAction)),
    s.hostReady = true → s.fault.any = false →
    (s.hostScript = (n, .read addr size) :: rest ∨ s.hostScript = (n, .write addr size v) :: rest) →
    (addr < s.cfg.hostBase ∨ s.cfg.hostBase + 16 ≤ addr → step s = .refused (.hostAccessOutside addr)) ∧
    (s.cfg.hostBase ≤ addr → addr < s.cfg.hostBase + 16 → (size ≠ 4 ∨ (addr - s.cfg.hostBase) % 4 ≠ 0) →
      step s = .refused (.hostAccessNotAWord addr size))

/-- R103: `POST` polls `CMD_READY` and writes `CMD` at a later instant, once it has read 1; `TAKE` polls `RESP_VALID`
and then reads `RESP`. -/
def Obligations.PostAndTakePollFirst : Prop :=
  ∀ (s : State) (n : Nat) (w : Word) (rest : List (Nat × HostAction)),
    s.hostReady = true → s.fault.any = false → s.ticksFit = true →
    (s.hostScript = (n, .post w) :: rest → s.hostPolled = false →
      step s = .next { s with hostLog := (s.ticks, if s.cmdValid then 0 else 1) :: s.hostLog,
                              hostPolled := !s.cmdValid, hostDone := true }) ∧
    (s.hostScript = (n, .post w) :: rest → s.hostPolled = true → s.cmdValid = false →
      step s = .next { s with cmdWord := w, cmdValid := true, hostScript := rest, hostPolled := false,
                              hostDone := true }) ∧
    (s.hostScript = (n, .take) :: rest → s.hostPolled = false →
      step s = .next { s with hostLog := (s.ticks, if s.respValid then 1 else 0) :: s.hostLog,
                              hostPolled := s.respValid, hostDone := true }) ∧
    (s.hostScript = (n, .take) :: rest → s.hostPolled = true →
      step s = .next { s with hostLog := (s.ticks, s.respByte.zeroExtend 32) :: s.hostLog, respValid := false,
                              hostScript := rest, hostPolled := false, hostDone := true })

/-- R79, R240: a HOST that polls never loses a command and never takes a stale byte: what its poll has seen still holds
when it makes the access, whatever steps the machine takes in between. -/
def Obligations.EveryStepKeepsThePoll : Prop :=
  ∀ s t : State, s.pollHolds → step s = .next t → t.pollHolds

/-- R203, R249: a HOST that waits `k` ticks between two lines leaves the block and the mailbox alone and has no action
to take at this instant and the `k - 1` after it; what follows in its script comes then.  The wait as an action of the
script is the model's HOST (log entry 14). -/
def Obligations.WaitHoldsTheHostBack : Prop :=
  ∀ (s : State) (n k : Nat) (rest : List (Nat × HostAction)),
    s.hostScript = (n, .wait k) :: rest → s.hostReady = true → s.fault.any = false → s.ticksFit = true →
    ∃ script, step s = .next { s with hostScript := script, hostPolled := false } ∧
      script.map Prod.snd = rest.map Prod.snd ∧
      (∀ u : State, u.hostScript = script → u.ticks < s.ticks + k → u.hostReady = false) ∧
      (∀ (u : State) (t' : Nat) (a : HostAction) (rest' : List (Nat × HostAction)), rest = (t', a) :: rest' →
        u.hostScript = script → u.hostDone = false → s.ticks + k ≤ u.ticks → t' ≤ u.ticks → u.hostReady = true)

/-- R95, R201, R202, R203: the register accesses of the accelerometer consumer, word by word, with the settle delay after
the assert and before the deassert; its two lengths, which the spec does not give, are free (log entry 14). -/
def Obligations.AccelerometerAccessIsTwoTransfers : Prop :=
  ∀ (r : BitVec 6) (v : Byte) (settleAfter settleBefore : Nat),
    (accelAccess true r v settleAfter settleBefore).flatMap HostLine.expand =
      [.post 0x06000000, .wait settleAfter,
       .post ((0x04000000 : Word) ||| ((0x80 : Word) ||| (r.zeroExtend 32 <<< 1))), .take,
       .post ((0x04000000 : Word) ||| v.zeroExtend 32), .take, .wait settleBefore, .post 0x06000001] ∧
    (accelAccess false r v settleAfter settleBefore).flatMap HostLine.expand =
      [.post 0x06000000, .wait settleAfter, .post ((0x04000000 : Word) ||| (r.zeroExtend 32 <<< 1)), .take,
       .post ((0x04000000 : Word) ||| v.zeroExtend 32), .take, .wait settleBefore, .post 0x06000001]

/-! ## Reset -/

/-- R53, R230: every element of the block after reset, whatever the parameters. -/
def Obligations.ResetValues : Prop :=
  ∀ p : Params, let s := State.resetWith p
    s.ticks = 0 ∧ s.cmdWord = 0 ∧ s.cmdValid = false ∧ s.respByte = 0 ∧ s.respValid = false ∧
    s.decOp = 0 ∧ s.decPayload = 0 ∧ s.decState = .idle ∧ s.spiSlot = 0 ∧ s.cpol = false ∧ s.cpha = false ∧
    s.wbyte = 0 ∧ s.racc = 0 ∧ s.spiClk = 0 ∧ s.sclk = false ∧ s.mosi = false ∧ s.csN = true ∧ s.pwmOut = false ∧
    s.period = 2 ∧ s.highTime = 0 ∧ s.pwmClk = 0 ∧ s.cct = 0 ∧ s.pwmPhase = .snap ∧ s.snapP = 0 ∧ s.snapH = 0 ∧
    s.fault.any = false

/-- R232: a reset at any instant gives every element of the block its reset value at once; the parameters stay.  That
the HOST's script asks for the reset and goes on after it is the model's choice (log entry 5).  So is where inside its
instant the reset falls (log entry 12, DESIGN CHOICE): it takes the HOST's turn, before any step DEC or PWM has at that
instant, and only in an instant in which the HOST has made no access, which is what `hostReady` asks.  A marked state is
left out, since no reset is made in one (log entry 9, DEDUCED). -/
def Obligations.ResetAtAnyInstant : Prop :=
  ∀ (s : State) (n : Nat) (slave : Slave) (rest : List (Nat × HostAction)),
    s.hostScript = (n, .reset slave) :: rest → s.hostReady = true → s.fault.any = false →
    ∃ t, step s = .next t ∧
      t.sameDecoder (State.resetWith s.cfg) ∧ t.sameWaveform (State.resetWith s.cfg) ∧
      t.samePair (State.resetWith s.cfg) ∧ t.fault.any = false ∧ t.cfg = s.cfg ∧ t.slave = slave ∧
      t.hostScript = rest ∧ t.hostDone = false

/-- R231: after reset, with no HOST activity, the third step of the machine leaves PWM waiting for instant `2 << S`: the
first always-off cycle has driven the output low at instant 0 and owes 2; the next step is a tick. -/
def Obligations.InstantZeroAfterReset : Prop :=
  ∀ p : Params, p.wf = true →
    ∃ t, Host.Core.run Sys2Proof.core 3 (State.resetWith p) = .next t ∧
      t.ticks = 0 ∧ t.pwmOut = false ∧ t.cct = 2 ∧ t.snapP = 2 ∧ t.snapH = 0 ∧ t.pwmClk = 0 ∧
      t.pwmPhase = .start ∧ t.nextStart = 2 * 2 ^ p.pwmShift ∧ t.quiet = true ∧ t.fault.any = false

/-- R53, R128: the invariant of the ClockStates holds right after reset, for all parameters the constraints allow. -/
def Obligations.ResetIsTimely : Prop := ∀ p : Params, p.wf = true → (State.resetWith p).Timely

/-! ## Invariants and headline results -/

/-- R123, R128, R129, R170: every step keeps the invariant of the ClockStates: each wait ends exactly at its deadline,
none is passed, and no delay of 0 ticks is ever asked for. -/
def Obligations.EveryStepKeepsDeadlines : Prop := ∀ s t : State, s.Timely → step s = .next t → t.Timely

/-- R132, R141: every step keeps the SPI outputs what the table says of the slot last acted, and when a transfer returns
the clock line is at `cpol`. -/
def Obligations.EveryStepKeepsTheWire : Prop :=
  ∀ s t : State, s.Timely → s.onTheWire → step s = .next t → t.onTheWire

/-- R131, R139, R142: a transfer of `w` started at `T0` from a SLAVE that sends `b` goes on so with every step but a
reset, until it returns, at exactly `T0 + 18*H` or `T0 + 16*H`, with `b` read and the clock line at `cpol`. -/
def Obligations.TransferReadsTheSlavesByteOnTime : Prop :=
  ∀ (s t : State) (T0 : Nat) (w b : Byte), s.Timely → s.transferring T0 w b → s.resetComes = false →
    step s = .next t →
    t.transferring T0 w b ∨
    (t.decState = .publish ∧ t.racc = b ∧ t.ticks = T0 + (if s.cpha then 16 else 18) * s.cfg.halfTicks ∧
      t.spiClk = t.ticks ∧ t.sclk = s.cpol)

/-- R133, R139, R148: `TRANSFER_NOW w` begins such a transfer at its own instant, from a SLAVE whose table sends `b`, or
from a wire, which sends `w` itself. -/
def Obligations.TransferNowBeginsATransfer : Prop :=
  ∀ (s : State) (w b : Byte),
    (match s.slave with
      | .table levels => ∀ j, j < 8 →
          levels.lookup (s.ticks + (if s.cpha then 2 * j + 1 else 2 * j + 2) * s.cfg.halfTicks) =
            some (b.getLsbD (7 - j))
      | .echo => b = w) →
    ∃ t, exec (.transferNow w) s = .next t ∧ t.transferring s.ticks w b

/-- R131, R142, R148, R216(c): with a quiet HOST, an unbounded counter and a period that is not 0, a transfer under way
does return: some number of steps later DEC publishes the byte read, at the instant the duration says. -/
def Obligations.TransferReturnsInTheEnd : Prop :=
  ∀ (s : State) (T0 : Nat) (w b : Byte), s.Timely → s.transferring T0 w b →
    s.hostScript = [] → s.cfg.tickW = none → s.fault.any = false →
    1 ≤ s.period.toNat → 1 ≤ s.periodPrev.toNat →
    ∃ n t, Host.Core.run Sys2Proof.core n s = .next t ∧ t.decState = .publish ∧ t.racc = b ∧
      t.ticks = T0 + (if s.cpha then 16 else 18) * s.cfg.halfTicks

/-- R20, R129: no step but a reset moves the tick count back, and none moves it by more than one. -/
def Obligations.TicksMoveOneByOne : Prop :=
  ∀ s t : State, s.resetComes = false → step s = .next t → t.ticks = s.ticks ∨ t.ticks = s.ticks + 1

/-- R46: the fault set is sticky: no step but a reset takes a name out of it. -/
def Obligations.FaultNamesStay : Prop :=
  ∀ s t : State, s.resetComes = false → step s = .next t →
    (s.fault.badModeValue = true → t.fault.badModeValue = true) ∧
    (s.fault.pwmZeroPeriod = true → t.fault.pwmZeroPeriod = true) ∧
    (s.fault.zeroDelay = true → t.fault.zeroDelay = true)

/-- R211, 93_implementation_defined.md U14: nothing is claimed of what follows a fault: a state with a mark, in which no
agent of the block has a step left at that instant, stops the machine with the set it holds (that the instant is
first finished is the model's choice, log entry 9). -/
def Obligations.MarkedStateStops : Prop :=
  ∀ s : State, s.fault.any = true → s.decReady = false → s.pwmReady = false →
    step s = .fault (.undefinedBehaviour s.fault)

/-- R7: no step changes the parameters. -/
def Obligations.ParametersAreFixed : Prop := ∀ s t : State, step s = .next t → t.cfg = s.cfg
end

