-- ==== Sys2Proof/Laws/Decode.lean ====
section
/-! SUPPORT. The fields of a joined word, and the payload readings of the payloads a HOST writes. -/

namespace Sys2Proof

theorem joinWord_getLsbD (op : Opcode) (p : Payload) (i : Nat) :
    (joinWord op p).getLsbD i = if i < 24 then p.getLsbD i else op.getLsbD (i - 24) :=
  BitVec.getLsbD_append ..

@[simp] theorem opcodeOf_joinWord (op : Opcode) (p : Payload) : opcodeOf (joinWord op p) = op := by
  apply BitVec.eq_of_getLsbD_eq; intro i hi
  rw [opcodeOf, BitVec.getLsbD_extractLsb', joinWord_getLsbD]
  simp [hi]

@[simp] theorem payloadOf_joinWord (op : Opcode) (p : Payload) : payloadOf (joinWord op p) = p := by
  apply BitVec.eq_of_getLsbD_eq; intro i hi
  rw [payloadOf, BitVec.getLsbD_extractLsb', joinWord_getLsbD]
  simp [hi]

theorem joinWord_fields (w : Word) : joinWord (opcodeOf w) (payloadOf w) = w := by
  apply BitVec.eq_of_getLsbD_eq; intro i hi
  rw [joinWord_getLsbD, opcodeOf, payloadOf, BitVec.getLsbD_extractLsb', BitVec.getLsbD_extractLsb']
  by_cases h : i < 24
  · simp [h]
  · have h1 : i - 24 < 8 := by omega
    have h2 : 24 + (i - 24) = i := by omega
    simp [h, h1, h2]

@[simp] theorem payloadByte_of_byte (b : Byte) : payloadByte (b.zeroExtend 24) = b := by
  apply BitVec.eq_of_getLsbD_eq; intro i hi
  have : i < 24 := by omega
  simp [payloadByte, hi, this]

@[simp] theorem payloadBit_of_bit (v : Bool) : payloadBit ((BitVec.ofBool v).zeroExtend 24) = v := by
  cases v <;> rfl

/-- Decoding a word the encoder joins looks at the opcode alone (R96). -/
theorem decode_joinWord (hasCs : Bool) (op : Opcode) (p : Payload) :
    decode hasCs (joinWord op p) = decodeFields hasCs op p := by simp [decode]

end Sys2Proof
end

