-- ==== Sys2Proof/Laws/State.lean ====
section
/-! SUPPORT. One lemma for each field of each unconditional state update. -/

namespace Sys2Proof.Machine

variable (s : State)

@[simp] theorem mark_ticks (n : FaultName) : (s.mark n).ticks = s.ticks := rfl
@[simp] theorem mark_cmdWord (n : FaultName) : (s.mark n).cmdWord = s.cmdWord := rfl
@[simp] theorem mark_cmdValid (n : FaultName) : (s.mark n).cmdValid = s.cmdValid := rfl
@[simp] theorem mark_respByte (n : FaultName) : (s.mark n).respByte = s.respByte := rfl
@[simp] theorem mark_respValid (n : FaultName) : (s.mark n).respValid = s.respValid := rfl
@[simp] theorem mark_decOp (n : FaultName) : (s.mark n).decOp = s.decOp := rfl
@[simp] theorem mark_decPayload (n : FaultName) : (s.mark n).decPayload = s.decPayload := rfl
@[simp] theorem mark_decState (n : FaultName) : (s.mark n).decState = s.decState := rfl
@[simp] theorem mark_spiSlot (n : FaultName) : (s.mark n).spiSlot = s.spiSlot := rfl
@[simp] theorem mark_cpol (n : FaultName) : (s.mark n).cpol = s.cpol := rfl
@[simp] theorem mark_cpha (n : FaultName) : (s.mark n).cpha = s.cpha := rfl
@[simp] theorem mark_wbyte (n : FaultName) : (s.mark n).wbyte = s.wbyte := rfl
@[simp] theorem mark_racc (n : FaultName) : (s.mark n).racc = s.racc := rfl
@[simp] theorem mark_spiClk (n : FaultName) : (s.mark n).spiClk = s.spiClk := rfl
@[simp] theorem mark_sclk (n : FaultName) : (s.mark n).sclk = s.sclk := rfl
@[simp] theorem mark_mosi (n : FaultName) : (s.mark n).mosi = s.mosi := rfl
@[simp] theorem mark_csN (n : FaultName) : (s.mark n).csN = s.csN := rfl
@[simp] theorem mark_pwmOut (n : FaultName) : (s.mark n).pwmOut = s.pwmOut := rfl
@[simp] theorem mark_period (n : FaultName) : (s.mark n).period = s.period := rfl
@[simp] theorem mark_highTime (n : FaultName) : (s.mark n).highTime = s.highTime := rfl
@[simp] theorem mark_pwmClk (n : FaultName) : (s.mark n).pwmClk = s.pwmClk := rfl
@[simp] theorem mark_cct (n : FaultName) : (s.mark n).cct = s.cct := rfl
@[simp] theorem mark_pwmPhase (n : FaultName) : (s.mark n).pwmPhase = s.pwmPhase := rfl
@[simp] theorem mark_snapP (n : FaultName) : (s.mark n).snapP = s.snapP := rfl
@[simp] theorem mark_snapH (n : FaultName) : (s.mark n).snapH = s.snapH := rfl
@[simp] theorem mark_fault (n : FaultName) : (s.mark n).fault = s.fault.add n := rfl
@[simp] theorem mark_cfg (n : FaultName) : (s.mark n).cfg = s.cfg := rfl
@[simp] theorem mark_periodPrev (n : FaultName) : (s.mark n).periodPrev = s.periodPrev := rfl
@[simp] theorem mark_highPrev (n : FaultName) : (s.mark n).highPrev = s.highPrev := rfl
@[simp] theorem mark_raceDraw (n : FaultName) : (s.mark n).raceDraw = s.raceDraw := rfl
@[simp] theorem mark_misoDraw (n : FaultName) : (s.mark n).misoDraw = s.misoDraw := rfl
@[simp] theorem mark_slave (n : FaultName) : (s.mark n).slave = s.slave := rfl
@[simp] theorem mark_hostScript (n : FaultName) : (s.mark n).hostScript = s.hostScript := rfl
@[simp] theorem mark_hostPolled (n : FaultName) : (s.mark n).hostPolled = s.hostPolled := rfl
@[simp] theorem mark_hostDone (n : FaultName) : (s.mark n).hostDone = s.hostDone := rfl
@[simp] theorem mark_hostLog (n : FaultName) : (s.mark n).hostLog = s.hostLog := rfl

@[simp] theorem drivePins_ticks (c d : Bool) : (s.drivePins c d).ticks = s.ticks := rfl
@[simp] theorem drivePins_cmdWord (c d : Bool) : (s.drivePins c d).cmdWord = s.cmdWord := rfl
@[simp] theorem drivePins_cmdValid (c d : Bool) : (s.drivePins c d).cmdValid = s.cmdValid := rfl
@[simp] theorem drivePins_respByte (c d : Bool) : (s.drivePins c d).respByte = s.respByte := rfl
@[simp] theorem drivePins_respValid (c d : Bool) : (s.drivePins c d).respValid = s.respValid := rfl
@[simp] theorem drivePins_decOp (c d : Bool) : (s.drivePins c d).decOp = s.decOp := rfl
@[simp] theorem drivePins_decPayload (c d : Bool) : (s.drivePins c d).decPayload = s.decPayload := rfl
@[simp] theorem drivePins_decState (c d : Bool) : (s.drivePins c d).decState = s.decState := rfl
@[simp] theorem drivePins_spiSlot (c d : Bool) : (s.drivePins c d).spiSlot = s.spiSlot := rfl
@[simp] theorem drivePins_cpol (c d : Bool) : (s.drivePins c d).cpol = s.cpol := rfl
@[simp] theorem drivePins_cpha (c d : Bool) : (s.drivePins c d).cpha = s.cpha := rfl
@[simp] theorem drivePins_wbyte (c d : Bool) : (s.drivePins c d).wbyte = s.wbyte := rfl
@[simp] theorem drivePins_racc (c d : Bool) : (s.drivePins c d).racc = s.racc := rfl
@[simp] theorem drivePins_spiClk (c d : Bool) : (s.drivePins c d).spiClk = s.spiClk := rfl
@[simp] theorem drivePins_sclk (c d : Bool) : (s.drivePins c d).sclk = c := rfl
@[simp] theorem drivePins_mosi (c d : Bool) : (s.drivePins c d).mosi = d := rfl
@[simp] theorem drivePins_csN (c d : Bool) : (s.drivePins c d).csN = s.csN := rfl
@[simp] theorem drivePins_pwmOut (c d : Bool) : (s.drivePins c d).pwmOut = s.pwmOut := rfl
@[simp] theorem drivePins_period (c d : Bool) : (s.drivePins c d).period = s.period := rfl
@[simp] theorem drivePins_highTime (c d : Bool) : (s.drivePins c d).highTime = s.highTime := rfl
@[simp] theorem drivePins_pwmClk (c d : Bool) : (s.drivePins c d).pwmClk = s.pwmClk := rfl
@[simp] theorem drivePins_cct (c d : Bool) : (s.drivePins c d).cct = s.cct := rfl
@[simp] theorem drivePins_pwmPhase (c d : Bool) : (s.drivePins c d).pwmPhase = s.pwmPhase := rfl
@[simp] theorem drivePins_snapP (c d : Bool) : (s.drivePins c d).snapP = s.snapP := rfl
@[simp] theorem drivePins_snapH (c d : Bool) : (s.drivePins c d).snapH = s.snapH := rfl
@[simp] theorem drivePins_fault (c d : Bool) : (s.drivePins c d).fault = s.fault := rfl
@[simp] theorem drivePins_cfg (c d : Bool) : (s.drivePins c d).cfg = s.cfg := rfl
@[simp] theorem drivePins_periodPrev (c d : Bool) : (s.drivePins c d).periodPrev = s.periodPrev := rfl
@[simp] theorem drivePins_highPrev (c d : Bool) : (s.drivePins c d).highPrev = s.highPrev := rfl
@[simp] theorem drivePins_raceDraw (c d : Bool) : (s.drivePins c d).raceDraw = s.raceDraw := rfl
@[simp] theorem drivePins_misoDraw (c d : Bool) : (s.drivePins c d).misoDraw = s.misoDraw := rfl
@[simp] theorem drivePins_slave (c d : Bool) : (s.drivePins c d).slave = s.slave := rfl
@[simp] theorem drivePins_hostScript (c d : Bool) : (s.drivePins c d).hostScript = s.hostScript := rfl
@[simp] theorem drivePins_hostPolled (c d : Bool) : (s.drivePins c d).hostPolled = s.hostPolled := rfl
@[simp] theorem drivePins_hostDone (c d : Bool) : (s.drivePins c d).hostDone = s.hostDone := rfl
@[simp] theorem drivePins_hostLog (c d : Bool) : (s.drivePins c d).hostLog = s.hostLog := rfl

@[simp] theorem driveClock_ticks (c : Bool) : (s.driveClock c).ticks = s.ticks := rfl
@[simp] theorem driveClock_cmdWord (c : Bool) : (s.driveClock c).cmdWord = s.cmdWord := rfl
@[simp] theorem driveClock_cmdValid (c : Bool) : (s.driveClock c).cmdValid = s.cmdValid := rfl
@[simp] theorem driveClock_respByte (c : Bool) : (s.driveClock c).respByte = s.respByte := rfl
@[simp] theorem driveClock_respValid (c : Bool) : (s.driveClock c).respValid = s.respValid := rfl
@[simp] theorem driveClock_decOp (c : Bool) : (s.driveClock c).decOp = s.decOp := rfl
@[simp] theorem driveClock_decPayload (c : Bool) : (s.driveClock c).decPayload = s.decPayload := rfl
@[simp] theorem driveClock_decState (c : Bool) : (s.driveClock c).decState = s.decState := rfl
@[simp] theorem driveClock_spiSlot (c : Bool) : (s.driveClock c).spiSlot = s.spiSlot := rfl
@[simp] theorem driveClock_cpol (c : Bool) : (s.driveClock c).cpol = s.cpol := rfl
@[simp] theorem driveClock_cpha (c : Bool) : (s.driveClock c).cpha = s.cpha := rfl
@[simp] theorem driveClock_wbyte (c : Bool) : (s.driveClock c).wbyte = s.wbyte := rfl
@[simp] theorem driveClock_racc (c : Bool) : (s.driveClock c).racc = s.racc := rfl
@[simp] theorem driveClock_spiClk (c : Bool) : (s.driveClock c).spiClk = s.spiClk := rfl
@[simp] theorem driveClock_sclk (c : Bool) : (s.driveClock c).sclk = c := rfl
@[simp] theorem driveClock_mosi (c : Bool) : (s.driveClock c).mosi = s.mosi := rfl
@[simp] theorem driveClock_csN (c : Bool) : (s.driveClock c).csN = s.csN := rfl
@[simp] theorem driveClock_pwmOut (c : Bool) : (s.driveClock c).pwmOut = s.pwmOut := rfl
@[simp] theorem driveClock_period (c : Bool) : (s.driveClock c).period = s.period := rfl
@[simp] theorem driveClock_highTime (c : Bool) : (s.driveClock c).highTime = s.highTime := rfl
@[simp] theorem driveClock_pwmClk (c : Bool) : (s.driveClock c).pwmClk = s.pwmClk := rfl
@[simp] theorem driveClock_cct (c : Bool) : (s.driveClock c).cct = s.cct := rfl
@[simp] theorem driveClock_pwmPhase (c : Bool) : (s.driveClock c).pwmPhase = s.pwmPhase := rfl
@[simp] theorem driveClock_snapP (c : Bool) : (s.driveClock c).snapP = s.snapP := rfl
@[simp] theorem driveClock_snapH (c : Bool) : (s.driveClock c).snapH = s.snapH := rfl
@[simp] theorem driveClock_fault (c : Bool) : (s.driveClock c).fault = s.fault := rfl
@[simp] theorem driveClock_cfg (c : Bool) : (s.driveClock c).cfg = s.cfg := rfl
@[simp] theorem driveClock_periodPrev (c : Bool) : (s.driveClock c).periodPrev = s.periodPrev := rfl
@[simp] theorem driveClock_highPrev (c : Bool) : (s.driveClock c).highPrev = s.highPrev := rfl
@[simp] theorem driveClock_raceDraw (c : Bool) : (s.driveClock c).raceDraw = s.raceDraw := rfl
@[simp] theorem driveClock_misoDraw (c : Bool) : (s.driveClock c).misoDraw = s.misoDraw := rfl
@[simp] theorem driveClock_slave (c : Bool) : (s.driveClock c).slave = s.slave := rfl
@[simp] theorem driveClock_hostScript (c : Bool) : (s.driveClock c).hostScript = s.hostScript := rfl
@[simp] theorem driveClock_hostPolled (c : Bool) : (s.driveClock c).hostPolled = s.hostPolled := rfl
@[simp] theorem driveClock_hostDone (c : Bool) : (s.driveClock c).hostDone = s.hostDone := rfl
@[simp] theorem driveClock_hostLog (c : Bool) : (s.driveClock c).hostLog = s.hostLog := rfl

@[simp] theorem latchCommand_ticks : (s.latchCommand).ticks = s.ticks := rfl
@[simp] theorem latchCommand_cmdWord : (s.latchCommand).cmdWord = s.cmdWord := rfl
@[simp] theorem latchCommand_cmdValid : (s.latchCommand).cmdValid = false := rfl
@[simp] theorem latchCommand_respByte : (s.latchCommand).respByte = s.respByte := rfl
@[simp] theorem latchCommand_respValid : (s.latchCommand).respValid = s.respValid := rfl
@[simp] theorem latchCommand_decOp : (s.latchCommand).decOp = opcodeOf s.cmdWord := rfl
@[simp] theorem latchCommand_decPayload : (s.latchCommand).decPayload = payloadOf s.cmdWord := rfl
@[simp] theorem latchCommand_decState : (s.latchCommand).decState = s.decState := rfl
@[simp] theorem latchCommand_spiSlot : (s.latchCommand).spiSlot = s.spiSlot := rfl
@[simp] theorem latchCommand_cpol : (s.latchCommand).cpol = s.cpol := rfl
@[simp] theorem latchCommand_cpha : (s.latchCommand).cpha = s.cpha := rfl
@[simp] theorem latchCommand_wbyte : (s.latchCommand).wbyte = s.wbyte := rfl
@[simp] theorem latchCommand_racc : (s.latchCommand).racc = s.racc := rfl
@[simp] theorem latchCommand_spiClk : (s.latchCommand).spiClk = s.spiClk := rfl
@[simp] theorem latchCommand_sclk : (s.latchCommand).sclk = s.sclk := rfl
@[simp] theorem latchCommand_mosi : (s.latchCommand).mosi = s.mosi := rfl
@[simp] theorem latchCommand_csN : (s.latchCommand).csN = s.csN := rfl
@[simp] theorem latchCommand_pwmOut : (s.latchCommand).pwmOut = s.pwmOut := rfl
@[simp] theorem latchCommand_period : (s.latchCommand).period = s.period := rfl
@[simp] theorem latchCommand_highTime : (s.latchCommand).highTime = s.highTime := rfl
@[simp] theorem latchCommand_pwmClk : (s.latchCommand).pwmClk = s.pwmClk := rfl
@[simp] theorem latchCommand_cct : (s.latchCommand).cct = s.cct := rfl
@[simp] theorem latchCommand_pwmPhase : (s.latchCommand).pwmPhase = s.pwmPhase := rfl
@[simp] theorem latchCommand_snapP : (s.latchCommand).snapP = s.snapP := rfl
@[simp] theorem latchCommand_snapH : (s.latchCommand).snapH = s.snapH := rfl
@[simp] theorem latchCommand_fault : (s.latchCommand).fault = s.fault := rfl
@[simp] theorem latchCommand_cfg : (s.latchCommand).cfg = s.cfg := rfl
@[simp] theorem latchCommand_periodPrev : (s.latchCommand).periodPrev = s.periodPrev := rfl
@[simp] theorem latchCommand_highPrev : (s.latchCommand).highPrev = s.highPrev := rfl
@[simp] theorem latchCommand_raceDraw : (s.latchCommand).raceDraw = s.raceDraw := rfl
@[simp] theorem latchCommand_misoDraw : (s.latchCommand).misoDraw = s.misoDraw := rfl
@[simp] theorem latchCommand_slave : (s.latchCommand).slave = s.slave := rfl
@[simp] theorem latchCommand_hostScript : (s.latchCommand).hostScript = s.hostScript := rfl
@[simp] theorem latchCommand_hostPolled : (s.latchCommand).hostPolled = s.hostPolled := rfl
@[simp] theorem latchCommand_hostDone : (s.latchCommand).hostDone = s.hostDone := rfl
@[simp] theorem latchCommand_hostLog : (s.latchCommand).hostLog = s.hostLog := rfl

@[simp] theorem decIdle_ticks : (s.decIdle).ticks = s.ticks := rfl
@[simp] theorem decIdle_cmdWord : (s.decIdle).cmdWord = s.cmdWord := rfl
@[simp] theorem decIdle_cmdValid : (s.decIdle).cmdValid = s.cmdValid := rfl
@[simp] theorem decIdle_respByte : (s.decIdle).respByte = s.respByte := rfl
@[simp] theorem decIdle_respValid : (s.decIdle).respValid = s.respValid := rfl
@[simp] theorem decIdle_decOp : (s.decIdle).decOp = s.decOp := rfl
@[simp] theorem decIdle_decPayload : (s.decIdle).decPayload = s.decPayload := rfl
@[simp] theorem decIdle_decState : (s.decIdle).decState = .idle := rfl
@[simp] theorem decIdle_spiSlot : (s.decIdle).spiSlot = s.spiSlot := rfl
@[simp] theorem decIdle_cpol : (s.decIdle).cpol = s.cpol := rfl
@[simp] theorem decIdle_cpha : (s.decIdle).cpha = s.cpha := rfl
@[simp] theorem decIdle_wbyte : (s.decIdle).wbyte = s.wbyte := rfl
@[simp] theorem decIdle_racc : (s.decIdle).racc = s.racc := rfl
@[simp] theorem decIdle_spiClk : (s.decIdle).spiClk = s.spiClk := rfl
@[simp] theorem decIdle_sclk : (s.decIdle).sclk = s.sclk := rfl
@[simp] theorem decIdle_mosi : (s.decIdle).mosi = s.mosi := rfl
@[simp] theorem decIdle_csN : (s.decIdle).csN = s.csN := rfl
@[simp] theorem decIdle_pwmOut : (s.decIdle).pwmOut = s.pwmOut := rfl
@[simp] theorem decIdle_period : (s.decIdle).period = s.period := rfl
@[simp] theorem decIdle_highTime : (s.decIdle).highTime = s.highTime := rfl
@[simp] theorem decIdle_pwmClk : (s.decIdle).pwmClk = s.pwmClk := rfl
@[simp] theorem decIdle_cct : (s.decIdle).cct = s.cct := rfl
@[simp] theorem decIdle_pwmPhase : (s.decIdle).pwmPhase = s.pwmPhase := rfl
@[simp] theorem decIdle_snapP : (s.decIdle).snapP = s.snapP := rfl
@[simp] theorem decIdle_snapH : (s.decIdle).snapH = s.snapH := rfl
@[simp] theorem decIdle_fault : (s.decIdle).fault = s.fault := rfl
@[simp] theorem decIdle_cfg : (s.decIdle).cfg = s.cfg := rfl
@[simp] theorem decIdle_periodPrev : (s.decIdle).periodPrev = s.periodPrev := rfl
@[simp] theorem decIdle_highPrev : (s.decIdle).highPrev = s.highPrev := rfl
@[simp] theorem decIdle_raceDraw : (s.decIdle).raceDraw = s.raceDraw := rfl
@[simp] theorem decIdle_misoDraw : (s.decIdle).misoDraw = s.misoDraw := rfl
@[simp] theorem decIdle_slave : (s.decIdle).slave = s.slave := rfl
@[simp] theorem decIdle_hostScript : (s.decIdle).hostScript = s.hostScript := rfl
@[simp] theorem decIdle_hostPolled : (s.decIdle).hostPolled = s.hostPolled := rfl
@[simp] theorem decIdle_hostDone : (s.decIdle).hostDone = s.hostDone := rfl
@[simp] theorem decIdle_hostLog : (s.decIdle).hostLog = s.hostLog := rfl

@[simp] theorem consumeResponse_ticks : (s.consumeResponse).ticks = s.ticks := rfl
@[simp] theorem consumeResponse_cmdWord : (s.consumeResponse).cmdWord = s.cmdWord := rfl
@[simp] theorem consumeResponse_cmdValid : (s.consumeResponse).cmdValid = s.cmdValid := rfl
@[simp] theorem consumeResponse_respByte : (s.consumeResponse).respByte = s.respByte := rfl
@[simp] theorem consumeResponse_respValid : (s.consumeResponse).respValid = false := rfl
@[simp] theorem consumeResponse_decOp : (s.consumeResponse).decOp = s.decOp := rfl
@[simp] theorem consumeResponse_decPayload : (s.consumeResponse).decPayload = s.decPayload := rfl
@[simp] theorem consumeResponse_decState : (s.consumeResponse).decState = s.decState := rfl
@[simp] theorem consumeResponse_spiSlot : (s.consumeResponse).spiSlot = s.spiSlot := rfl
@[simp] theorem consumeResponse_cpol : (s.consumeResponse).cpol = s.cpol := rfl
@[simp] theorem consumeResponse_cpha : (s.consumeResponse).cpha = s.cpha := rfl
@[simp] theorem consumeResponse_wbyte : (s.consumeResponse).wbyte = s.wbyte := rfl
@[simp] theorem consumeResponse_racc : (s.consumeResponse).racc = s.racc := rfl
@[simp] theorem consumeResponse_spiClk : (s.consumeResponse).spiClk = s.spiClk := rfl
@[simp] theorem consumeResponse_sclk : (s.consumeResponse).sclk = s.sclk := rfl
@[simp] theorem consumeResponse_mosi : (s.consumeResponse).mosi = s.mosi := rfl
@[simp] theorem consumeResponse_csN : (s.consumeResponse).csN = s.csN := rfl
@[simp] theorem consumeResponse_pwmOut : (s.consumeResponse).pwmOut = s.pwmOut := rfl
@[simp] theorem consumeResponse_period : (s.consumeResponse).period = s.period := rfl
@[simp] theorem consumeResponse_highTime : (s.consumeResponse).highTime = s.highTime := rfl
@[simp] theorem consumeResponse_pwmClk : (s.consumeResponse).pwmClk = s.pwmClk := rfl
@[simp] theorem consumeResponse_cct : (s.consumeResponse).cct = s.cct := rfl
@[simp] theorem consumeResponse_pwmPhase : (s.consumeResponse).pwmPhase = s.pwmPhase := rfl
@[simp] theorem consumeResponse_snapP : (s.consumeResponse).snapP = s.snapP := rfl
@[simp] theorem consumeResponse_snapH : (s.consumeResponse).snapH = s.snapH := rfl
@[simp] theorem consumeResponse_fault : (s.consumeResponse).fault = s.fault := rfl
@[simp] theorem consumeResponse_cfg : (s.consumeResponse).cfg = s.cfg := rfl
@[simp] theorem consumeResponse_periodPrev : (s.consumeResponse).periodPrev = s.periodPrev := rfl
@[simp] theorem consumeResponse_highPrev : (s.consumeResponse).highPrev = s.highPrev := rfl
@[simp] theorem consumeResponse_raceDraw : (s.consumeResponse).raceDraw = s.raceDraw := rfl
@[simp] theorem consumeResponse_misoDraw : (s.consumeResponse).misoDraw = s.misoDraw := rfl
@[simp] theorem consumeResponse_slave : (s.consumeResponse).slave = s.slave := rfl
@[simp] theorem consumeResponse_hostScript : (s.consumeResponse).hostScript = s.hostScript := rfl
@[simp] theorem consumeResponse_hostPolled : (s.consumeResponse).hostPolled = s.hostPolled := rfl
@[simp] theorem consumeResponse_hostDone : (s.consumeResponse).hostDone = s.hostDone := rfl
@[simp] theorem consumeResponse_hostLog : (s.consumeResponse).hostLog = s.hostLog := rfl

@[simp] theorem publishByte_ticks (r : Byte) : (s.publishByte r).ticks = s.ticks := rfl
@[simp] theorem publishByte_cmdWord (r : Byte) : (s.publishByte r).cmdWord = s.cmdWord := rfl
@[simp] theorem publishByte_cmdValid (r : Byte) : (s.publishByte r).cmdValid = s.cmdValid := rfl
@[simp] theorem publishByte_respByte (r : Byte) : (s.publishByte r).respByte = r := rfl
@[simp] theorem publishByte_respValid (r : Byte) : (s.publishByte r).respValid = true := rfl
@[simp] theorem publishByte_decOp (r : Byte) : (s.publishByte r).decOp = s.decOp := rfl
@[simp] theorem publishByte_decPayload (r : Byte) : (s.publishByte r).decPayload = s.decPayload := rfl
@[simp] theorem publishByte_decState (r : Byte) : (s.publishByte r).decState = s.decState := rfl
@[simp] theorem publishByte_spiSlot (r : Byte) : (s.publishByte r).spiSlot = s.spiSlot := rfl
@[simp] theorem publishByte_cpol (r : Byte) : (s.publishByte r).cpol = s.cpol := rfl
@[simp] theorem publishByte_cpha (r : Byte) : (s.publishByte r).cpha = s.cpha := rfl
@[simp] theorem publishByte_wbyte (r : Byte) : (s.publishByte r).wbyte = s.wbyte := rfl
@[simp] theorem publishByte_racc (r : Byte) : (s.publishByte r).racc = s.racc := rfl
@[simp] theorem publishByte_spiClk (r : Byte) : (s.publishByte r).spiClk = s.spiClk := rfl
@[simp] theorem publishByte_sclk (r : Byte) : (s.publishByte r).sclk = s.sclk := rfl
@[simp] theorem publishByte_mosi (r : Byte) : (s.publishByte r).mosi = s.mosi := rfl
@[simp] theorem publishByte_csN (r : Byte) : (s.publishByte r).csN = s.csN := rfl
@[simp] theorem publishByte_pwmOut (r : Byte) : (s.publishByte r).pwmOut = s.pwmOut := rfl
@[simp] theorem publishByte_period (r : Byte) : (s.publishByte r).period = s.period := rfl
@[simp] theorem publishByte_highTime (r : Byte) : (s.publishByte r).highTime = s.highTime := rfl
@[simp] theorem publishByte_pwmClk (r : Byte) : (s.publishByte r).pwmClk = s.pwmClk := rfl
@[simp] theorem publishByte_cct (r : Byte) : (s.publishByte r).cct = s.cct := rfl
@[simp] theorem publishByte_pwmPhase (r : Byte) : (s.publishByte r).pwmPhase = s.pwmPhase := rfl
@[simp] theorem publishByte_snapP (r : Byte) : (s.publishByte r).snapP = s.snapP := rfl
@[simp] theorem publishByte_snapH (r : Byte) : (s.publishByte r).snapH = s.snapH := rfl
@[simp] theorem publishByte_fault (r : Byte) : (s.publishByte r).fault = s.fault := rfl
@[simp] theorem publishByte_cfg (r : Byte) : (s.publishByte r).cfg = s.cfg := rfl
@[simp] theorem publishByte_periodPrev (r : Byte) : (s.publishByte r).periodPrev = s.periodPrev := rfl
@[simp] theorem publishByte_highPrev (r : Byte) : (s.publishByte r).highPrev = s.highPrev := rfl
@[simp] theorem publishByte_raceDraw (r : Byte) : (s.publishByte r).raceDraw = s.raceDraw := rfl
@[simp] theorem publishByte_misoDraw (r : Byte) : (s.publishByte r).misoDraw = s.misoDraw := rfl
@[simp] theorem publishByte_slave (r : Byte) : (s.publishByte r).slave = s.slave := rfl
@[simp] theorem publishByte_hostScript (r : Byte) : (s.publishByte r).hostScript = s.hostScript := rfl
@[simp] theorem publishByte_hostPolled (r : Byte) : (s.publishByte r).hostPolled = s.hostPolled := rfl
@[simp] theorem publishByte_hostDone (r : Byte) : (s.publishByte r).hostDone = s.hostDone := rfl
@[simp] theorem publishByte_hostLog (r : Byte) : (s.publishByte r).hostLog = s.hostLog := rfl

@[simp] theorem tick_ticks : (s.tick).ticks = s.ticks + 1 := rfl
@[simp] theorem tick_cmdWord : (s.tick).cmdWord = s.cmdWord := rfl
@[simp] theorem tick_cmdValid : (s.tick).cmdValid = s.cmdValid := rfl
@[simp] theorem tick_respByte : (s.tick).respByte = s.respByte := rfl
@[simp] theorem tick_respValid : (s.tick).respValid = s.respValid := rfl
@[simp] theorem tick_decOp : (s.tick).decOp = s.decOp := rfl
@[simp] theorem tick_decPayload : (s.tick).decPayload = s.decPayload := rfl
@[simp] theorem tick_decState : (s.tick).decState = s.decState := rfl
@[simp] theorem tick_spiSlot : (s.tick).spiSlot = s.spiSlot := rfl
@[simp] theorem tick_cpol : (s.tick).cpol = s.cpol := rfl
@[simp] theorem tick_cpha : (s.tick).cpha = s.cpha := rfl
@[simp] theorem tick_wbyte : (s.tick).wbyte = s.wbyte := rfl
@[simp] theorem tick_racc : (s.tick).racc = s.racc := rfl
@[simp] theorem tick_spiClk : (s.tick).spiClk = s.spiClk := rfl
@[simp] theorem tick_sclk : (s.tick).sclk = s.sclk := rfl
@[simp] theorem tick_mosi : (s.tick).mosi = s.mosi := rfl
@[simp] theorem tick_csN : (s.tick).csN = s.csN := rfl
@[simp] theorem tick_pwmOut : (s.tick).pwmOut = s.pwmOut := rfl
@[simp] theorem tick_period : (s.tick).period = s.period := rfl
@[simp] theorem tick_highTime : (s.tick).highTime = s.highTime := rfl
@[simp] theorem tick_pwmClk : (s.tick).pwmClk = s.pwmClk := rfl
@[simp] theorem tick_cct : (s.tick).cct = s.cct := rfl
@[simp] theorem tick_pwmPhase : (s.tick).pwmPhase = s.pwmPhase := rfl
@[simp] theorem tick_snapP : (s.tick).snapP = s.snapP := rfl
@[simp] theorem tick_snapH : (s.tick).snapH = s.snapH := rfl
@[simp] theorem tick_fault : (s.tick).fault = s.fault := rfl
@[simp] theorem tick_cfg : (s.tick).cfg = s.cfg := rfl
@[simp] theorem tick_periodPrev : (s.tick).periodPrev = s.period := rfl
@[simp] theorem tick_highPrev : (s.tick).highPrev = s.highTime := rfl
@[simp] theorem tick_raceDraw : (s.tick).raceDraw = s.raceDraw := rfl
@[simp] theorem tick_misoDraw : (s.tick).misoDraw = s.misoDraw := rfl
@[simp] theorem tick_slave : (s.tick).slave = s.slave := rfl
@[simp] theorem tick_hostScript : (s.tick).hostScript = s.hostScript := rfl
@[simp] theorem tick_hostPolled : (s.tick).hostPolled = s.hostPolled := rfl
@[simp] theorem tick_hostDone : (s.tick).hostDone = false := rfl
@[simp] theorem tick_hostLog : (s.tick).hostLog = s.hostLog := rfl

@[simp] theorem pwmLower_ticks : (pwmLower s).ticks = s.ticks := rfl
@[simp] theorem pwmLower_cmdWord : (pwmLower s).cmdWord = s.cmdWord := rfl
@[simp] theorem pwmLower_cmdValid : (pwmLower s).cmdValid = s.cmdValid := rfl
@[simp] theorem pwmLower_respByte : (pwmLower s).respByte = s.respByte := rfl
@[simp] theorem pwmLower_respValid : (pwmLower s).respValid = s.respValid := rfl
@[simp] theorem pwmLower_decOp : (pwmLower s).decOp = s.decOp := rfl
@[simp] theorem pwmLower_decPayload : (pwmLower s).decPayload = s.decPayload := rfl
@[simp] theorem pwmLower_decState : (pwmLower s).decState = s.decState := rfl
@[simp] theorem pwmLower_spiSlot : (pwmLower s).spiSlot = s.spiSlot := rfl
@[simp] theorem pwmLower_cpol : (pwmLower s).cpol = s.cpol := rfl
@[simp] theorem pwmLower_cpha : (pwmLower s).cpha = s.cpha := rfl
@[simp] theorem pwmLower_wbyte : (pwmLower s).wbyte = s.wbyte := rfl
@[simp] theorem pwmLower_racc : (pwmLower s).racc = s.racc := rfl
@[simp] theorem pwmLower_spiClk : (pwmLower s).spiClk = s.spiClk := rfl
@[simp] theorem pwmLower_sclk : (pwmLower s).sclk = s.sclk := rfl
@[simp] theorem pwmLower_mosi : (pwmLower s).mosi = s.mosi := rfl
@[simp] theorem pwmLower_csN : (pwmLower s).csN = s.csN := rfl
@[simp] theorem pwmLower_pwmOut : (pwmLower s).pwmOut = false := rfl
@[simp] theorem pwmLower_period : (pwmLower s).period = s.period := rfl
@[simp] theorem pwmLower_highTime : (pwmLower s).highTime = s.highTime := rfl
@[simp] theorem pwmLower_pwmClk : (pwmLower s).pwmClk = s.pwmClk := rfl
@[simp] theorem pwmLower_cct : (pwmLower s).cct = s.snapP - s.snapH := rfl
@[simp] theorem pwmLower_pwmPhase : (pwmLower s).pwmPhase = .snap := rfl
@[simp] theorem pwmLower_snapP : (pwmLower s).snapP = s.snapP := rfl
@[simp] theorem pwmLower_snapH : (pwmLower s).snapH = s.snapH := rfl
@[simp] theorem pwmLower_fault : (pwmLower s).fault = s.fault := rfl
@[simp] theorem pwmLower_cfg : (pwmLower s).cfg = s.cfg := rfl
@[simp] theorem pwmLower_periodPrev : (pwmLower s).periodPrev = s.periodPrev := rfl
@[simp] theorem pwmLower_highPrev : (pwmLower s).highPrev = s.highPrev := rfl
@[simp] theorem pwmLower_raceDraw : (pwmLower s).raceDraw = s.raceDraw := rfl
@[simp] theorem pwmLower_misoDraw : (pwmLower s).misoDraw = s.misoDraw := rfl
@[simp] theorem pwmLower_slave : (pwmLower s).slave = s.slave := rfl
@[simp] theorem pwmLower_hostScript : (pwmLower s).hostScript = s.hostScript := rfl
@[simp] theorem pwmLower_hostPolled : (pwmLower s).hostPolled = s.hostPolled := rfl
@[simp] theorem pwmLower_hostDone : (pwmLower s).hostDone = s.hostDone := rfl
@[simp] theorem pwmLower_hostLog : (pwmLower s).hostLog = s.hostLog := rfl

@[simp] theorem hostNext_ticks (l : List (Nat × HostAction)) : (s.hostNext l).ticks = s.ticks := rfl
@[simp] theorem hostNext_cmdWord (l : List (Nat × HostAction)) : (s.hostNext l).cmdWord = s.cmdWord := rfl
@[simp] theorem hostNext_cmdValid (l : List (Nat × HostAction)) : (s.hostNext l).cmdValid = s.cmdValid := rfl
@[simp] theorem hostNext_respByte (l : List (Nat × HostAction)) : (s.hostNext l).respByte = s.respByte := rfl
@[simp] theorem hostNext_respValid (l : List (Nat × HostAction)) : (s.hostNext l).respValid = s.respValid := rfl
@[simp] theorem hostNext_decOp (l : List (Nat × HostAction)) : (s.hostNext l).decOp = s.decOp := rfl
@[simp] theorem hostNext_decPayload (l : List (Nat × HostAction)) : (s.hostNext l).decPayload = s.decPayload := rfl
@[simp] theorem hostNext_decState (l : List (Nat × HostAction)) : (s.hostNext l).decState = s.decState := rfl
@[simp] theorem hostNext_spiSlot (l : List (Nat × HostAction)) : (s.hostNext l).spiSlot = s.spiSlot := rfl
@[simp] theorem hostNext_cpol (l : List (Nat × HostAction)) : (s.hostNext l).cpol = s.cpol := rfl
@[simp] theorem hostNext_cpha (l : List (Nat × HostAction)) : (s.hostNext l).cpha = s.cpha := rfl
@[simp] theorem hostNext_wbyte (l : List (Nat × HostAction)) : (s.hostNext l).wbyte = s.wbyte := rfl
@[simp] theorem hostNext_racc (l : List (Nat × HostAction)) : (s.hostNext l).racc = s.racc := rfl
@[simp] theorem hostNext_spiClk (l : List (Nat × HostAction)) : (s.hostNext l).spiClk = s.spiClk := rfl
@[simp] theorem hostNext_sclk (l : List (Nat × HostAction)) : (s.hostNext l).sclk = s.sclk := rfl
@[simp] theorem hostNext_mosi (l : List (Nat × HostAction)) : (s.hostNext l).mosi = s.mosi := rfl
@[simp] theorem hostNext_csN (l : List (Nat × HostAction)) : (s.hostNext l).csN = s.csN := rfl
@[simp] theorem hostNext_pwmOut (l : List (Nat × HostAction)) : (s.hostNext l).pwmOut = s.pwmOut := rfl
@[simp] theorem hostNext_period (l : List (Nat × HostAction)) : (s.hostNext l).period = s.period := rfl
@[simp] theorem hostNext_highTime (l : List (Nat × HostAction)) : (s.hostNext l).highTime = s.highTime := rfl
@[simp] theorem hostNext_pwmClk (l : List (Nat × HostAction)) : (s.hostNext l).pwmClk = s.pwmClk := rfl
@[simp] theorem hostNext_cct (l : List (Nat × HostAction)) : (s.hostNext l).cct = s.cct := rfl
@[simp] theorem hostNext_pwmPhase (l : List (Nat × HostAction)) : (s.hostNext l).pwmPhase = s.pwmPhase := rfl
@[simp] theorem hostNext_snapP (l : List (Nat × HostAction)) : (s.hostNext l).snapP = s.snapP := rfl
@[simp] theorem hostNext_snapH (l : List (Nat × HostAction)) : (s.hostNext l).snapH = s.snapH := rfl
@[simp] theorem hostNext_fault (l : List (Nat × HostAction)) : (s.hostNext l).fault = s.fault := rfl
@[simp] theorem hostNext_cfg (l : List (Nat × HostAction)) : (s.hostNext l).cfg = s.cfg := rfl
@[simp] theorem hostNext_periodPrev (l : List (Nat × HostAction)) : (s.hostNext l).periodPrev = s.periodPrev := rfl
@[simp] theorem hostNext_highPrev (l : List (Nat × HostAction)) : (s.hostNext l).highPrev = s.highPrev := rfl
@[simp] theorem hostNext_raceDraw (l : List (Nat × HostAction)) : (s.hostNext l).raceDraw = s.raceDraw := rfl
@[simp] theorem hostNext_misoDraw (l : List (Nat × HostAction)) : (s.hostNext l).misoDraw = s.misoDraw := rfl
@[simp] theorem hostNext_slave (l : List (Nat × HostAction)) : (s.hostNext l).slave = s.slave := rfl
@[simp] theorem hostNext_hostScript (l : List (Nat × HostAction)) : (s.hostNext l).hostScript = l := rfl
@[simp] theorem hostNext_hostPolled (l : List (Nat × HostAction)) : (s.hostNext l).hostPolled = false := rfl
@[simp] theorem hostNext_hostDone (l : List (Nat × HostAction)) : (s.hostNext l).hostDone = s.hostDone := rfl
@[simp] theorem hostNext_hostLog (l : List (Nat × HostAction)) : (s.hostNext l).hostLog = s.hostLog := rfl

@[simp] theorem postWord_ticks (w : Word) : (s.postWord w).ticks = s.ticks := rfl
@[simp] theorem postWord_cmdWord (w : Word) : (s.postWord w).cmdWord = w := rfl
@[simp] theorem postWord_cmdValid (w : Word) : (s.postWord w).cmdValid = true := rfl
@[simp] theorem postWord_respByte (w : Word) : (s.postWord w).respByte = s.respByte := rfl
@[simp] theorem postWord_respValid (w : Word) : (s.postWord w).respValid = s.respValid := rfl
@[simp] theorem postWord_decOp (w : Word) : (s.postWord w).decOp = s.decOp := rfl
@[simp] theorem postWord_decPayload (w : Word) : (s.postWord w).decPayload = s.decPayload := rfl
@[simp] theorem postWord_decState (w : Word) : (s.postWord w).decState = .idle := rfl
@[simp] theorem postWord_spiSlot (w : Word) : (s.postWord w).spiSlot = s.spiSlot := rfl
@[simp] theorem postWord_cpol (w : Word) : (s.postWord w).cpol = s.cpol := rfl
@[simp] theorem postWord_cpha (w : Word) : (s.postWord w).cpha = s.cpha := rfl
@[simp] theorem postWord_wbyte (w : Word) : (s.postWord w).wbyte = s.wbyte := rfl
@[simp] theorem postWord_racc (w : Word) : (s.postWord w).racc = s.racc := rfl
@[simp] theorem postWord_spiClk (w : Word) : (s.postWord w).spiClk = s.spiClk := rfl
@[simp] theorem postWord_sclk (w : Word) : (s.postWord w).sclk = s.sclk := rfl
@[simp] theorem postWord_mosi (w : Word) : (s.postWord w).mosi = s.mosi := rfl
@[simp] theorem postWord_csN (w : Word) : (s.postWord w).csN = s.csN := rfl
@[simp] theorem postWord_pwmOut (w : Word) : (s.postWord w).pwmOut = s.pwmOut := rfl
@[simp] theorem postWord_period (w : Word) : (s.postWord w).period = s.period := rfl
@[simp] theorem postWord_highTime (w : Word) : (s.postWord w).highTime = s.highTime := rfl
@[simp] theorem postWord_pwmClk (w : Word) : (s.postWord w).pwmClk = s.pwmClk := rfl
@[simp] theorem postWord_cct (w : Word) : (s.postWord w).cct = s.cct := rfl
@[simp] theorem postWord_pwmPhase (w : Word) : (s.postWord w).pwmPhase = s.pwmPhase := rfl
@[simp] theorem postWord_snapP (w : Word) : (s.postWord w).snapP = s.snapP := rfl
@[simp] theorem postWord_snapH (w : Word) : (s.postWord w).snapH = s.snapH := rfl
@[simp] theorem postWord_fault (w : Word) : (s.postWord w).fault = .empty := rfl
@[simp] theorem postWord_cfg (w : Word) : (s.postWord w).cfg = s.cfg := rfl
@[simp] theorem postWord_periodPrev (w : Word) : (s.postWord w).periodPrev = s.periodPrev := rfl
@[simp] theorem postWord_highPrev (w : Word) : (s.postWord w).highPrev = s.highPrev := rfl
@[simp] theorem postWord_raceDraw (w : Word) : (s.postWord w).raceDraw = s.raceDraw := rfl
@[simp] theorem postWord_misoDraw (w : Word) : (s.postWord w).misoDraw = s.misoDraw := rfl
@[simp] theorem postWord_slave (w : Word) : (s.postWord w).slave = s.slave := rfl
@[simp] theorem postWord_hostScript (w : Word) : (s.postWord w).hostScript = s.hostScript := rfl
@[simp] theorem postWord_hostPolled (w : Word) : (s.postWord w).hostPolled = s.hostPolled := rfl
@[simp] theorem postWord_hostDone (w : Word) : (s.postWord w).hostDone = true := rfl
@[simp] theorem postWord_hostLog (w : Word) : (s.postWord w).hostLog = s.hostLog := rfl

@[simp] theorem setClock_spi_ticks (t : Nat) : (s.setClock .spi t).ticks = s.ticks := rfl
@[simp] theorem setClock_spi_cmdWord (t : Nat) : (s.setClock .spi t).cmdWord = s.cmdWord := rfl
@[simp] theorem setClock_spi_cmdValid (t : Nat) : (s.setClock .spi t).cmdValid = s.cmdValid := rfl
@[simp] theorem setClock_spi_respByte (t : Nat) : (s.setClock .spi t).respByte = s.respByte := rfl
@[simp] theorem setClock_spi_respValid (t : Nat) : (s.setClock .spi t).respValid = s.respValid := rfl
@[simp] theorem setClock_spi_decOp (t : Nat) : (s.setClock .spi t).decOp = s.decOp := rfl
@[simp] theorem setClock_spi_decPayload (t : Nat) : (s.setClock .spi t).decPayload = s.decPayload := rfl
@[simp] theorem setClock_spi_decState (t : Nat) : (s.setClock .spi t).decState = s.decState := rfl
@[simp] theorem setClock_spi_spiSlot (t : Nat) : (s.setClock .spi t).spiSlot = s.spiSlot := rfl
@[simp] theorem setClock_spi_cpol (t : Nat) : (s.setClock .spi t).cpol = s.cpol := rfl
@[simp] theorem setClock_spi_cpha (t : Nat) : (s.setClock .spi t).cpha = s.cpha := rfl
@[simp] theorem setClock_spi_wbyte (t : Nat) : (s.setClock .spi t).wbyte = s.wbyte := rfl
@[simp] theorem setClock_spi_racc (t : Nat) : (s.setClock .spi t).racc = s.racc := rfl
@[simp] theorem setClock_spi_spiClk (t : Nat) : (s.setClock .spi t).spiClk = t := rfl
@[simp] theorem setClock_spi_sclk (t : Nat) : (s.setClock .spi t).sclk = s.sclk := rfl
@[simp] theorem setClock_spi_mosi (t : Nat) : (s.setClock .spi t).mosi = s.mosi := rfl
@[simp] theorem setClock_spi_csN (t : Nat) : (s.setClock .spi t).csN = s.csN := rfl
@[simp] theorem setClock_spi_pwmOut (t : Nat) : (s.setClock .spi t).pwmOut = s.pwmOut := rfl
@[simp] theorem setClock_spi_period (t : Nat) : (s.setClock .spi t).period = s.period := rfl
@[simp] theorem setClock_spi_highTime (t : Nat) : (s.setClock .spi t).highTime = s.highTime := rfl
@[simp] theorem setClock_spi_pwmClk (t : Nat) : (s.setClock .spi t).pwmClk = s.pwmClk := rfl
@[simp] theorem setClock_spi_cct (t : Nat) : (s.setClock .spi t).cct = s.cct := rfl
@[simp] theorem setClock_spi_pwmPhase (t : Nat) : (s.setClock .spi t).pwmPhase = s.pwmPhase := rfl
@[simp] theorem setClock_spi_snapP (t : Nat) : (s.setClock .spi t).snapP = s.snapP := rfl
@[simp] theorem setClock_spi_snapH (t : Nat) : (s.setClock .spi t).snapH = s.snapH := rfl
@[simp] theorem setClock_spi_fault (t : Nat) : (s.setClock .spi t).fault = s.fault := rfl
@[simp] theorem setClock_spi_cfg (t : Nat) : (s.setClock .spi t).cfg = s.cfg := rfl
@[simp] theorem setClock_spi_periodPrev (t : Nat) : (s.setClock .spi t).periodPrev = s.periodPrev := rfl
@[simp] theorem setClock_spi_highPrev (t : Nat) : (s.setClock .spi t).highPrev = s.highPrev := rfl
@[simp] theorem setClock_spi_raceDraw (t : Nat) : (s.setClock .spi t).raceDraw = s.raceDraw := rfl
@[simp] theorem setClock_spi_misoDraw (t : Nat) : (s.setClock .spi t).misoDraw = s.misoDraw := rfl
@[simp] theorem setClock_spi_slave (t : Nat) : (s.setClock .spi t).slave = s.slave := rfl
@[simp] theorem setClock_spi_hostScript (t : Nat) : (s.setClock .spi t).hostScript = s.hostScript := rfl
@[simp] theorem setClock_spi_hostPolled (t : Nat) : (s.setClock .spi t).hostPolled = s.hostPolled := rfl
@[simp] theorem setClock_spi_hostDone (t : Nat) : (s.setClock .spi t).hostDone = s.hostDone := rfl
@[simp] theorem setClock_spi_hostLog (t : Nat) : (s.setClock .spi t).hostLog = s.hostLog := rfl

@[simp] theorem setClock_pwm_ticks (t : Nat) : (s.setClock .pwm t).ticks = s.ticks := rfl
@[simp] theorem setClock_pwm_cmdWord (t : Nat) : (s.setClock .pwm t).cmdWord = s.cmdWord := rfl
@[simp] theorem setClock_pwm_cmdValid (t : Nat) : (s.setClock .pwm t).cmdValid = s.cmdValid := rfl
@[simp] theorem setClock_pwm_respByte (t : Nat) : (s.setClock .pwm t).respByte = s.respByte := rfl
@[simp] theorem setClock_pwm_respValid (t : Nat) : (s.setClock .pwm t).respValid = s.respValid := rfl
@[simp] theorem setClock_pwm_decOp (t : Nat) : (s.setClock .pwm t).decOp = s.decOp := rfl
@[simp] theorem setClock_pwm_decPayload (t : Nat) : (s.setClock .pwm t).decPayload = s.decPayload := rfl
@[simp] theorem setClock_pwm_decState (t : Nat) : (s.setClock .pwm t).decState = s.decState := rfl
@[simp] theorem setClock_pwm_spiSlot (t : Nat) : (s.setClock .pwm t).spiSlot = s.spiSlot := rfl
@[simp] theorem setClock_pwm_cpol (t : Nat) : (s.setClock .pwm t).cpol = s.cpol := rfl
@[simp] theorem setClock_pwm_cpha (t : Nat) : (s.setClock .pwm t).cpha = s.cpha := rfl
@[simp] theorem setClock_pwm_wbyte (t : Nat) : (s.setClock .pwm t).wbyte = s.wbyte := rfl
@[simp] theorem setClock_pwm_racc (t : Nat) : (s.setClock .pwm t).racc = s.racc := rfl
@[simp] theorem setClock_pwm_spiClk (t : Nat) : (s.setClock .pwm t).spiClk = s.spiClk := rfl
@[simp] theorem setClock_pwm_sclk (t : Nat) : (s.setClock .pwm t).sclk = s.sclk := rfl
@[simp] theorem setClock_pwm_mosi (t : Nat) : (s.setClock .pwm t).mosi = s.mosi := rfl
@[simp] theorem setClock_pwm_csN (t : Nat) : (s.setClock .pwm t).csN = s.csN := rfl
@[simp] theorem setClock_pwm_pwmOut (t : Nat) : (s.setClock .pwm t).pwmOut = s.pwmOut := rfl
@[simp] theorem setClock_pwm_period (t : Nat) : (s.setClock .pwm t).period = s.period := rfl
@[simp] theorem setClock_pwm_highTime (t : Nat) : (s.setClock .pwm t).highTime = s.highTime := rfl
@[simp] theorem setClock_pwm_pwmClk (t : Nat) : (s.setClock .pwm t).pwmClk = t := rfl
@[simp] theorem setClock_pwm_cct (t : Nat) : (s.setClock .pwm t).cct = s.cct := rfl
@[simp] theorem setClock_pwm_pwmPhase (t : Nat) : (s.setClock .pwm t).pwmPhase = s.pwmPhase := rfl
@[simp] theorem setClock_pwm_snapP (t : Nat) : (s.setClock .pwm t).snapP = s.snapP := rfl
@[simp] theorem setClock_pwm_snapH (t : Nat) : (s.setClock .pwm t).snapH = s.snapH := rfl
@[simp] theorem setClock_pwm_fault (t : Nat) : (s.setClock .pwm t).fault = s.fault := rfl
@[simp] theorem setClock_pwm_cfg (t : Nat) : (s.setClock .pwm t).cfg = s.cfg := rfl
@[simp] theorem setClock_pwm_periodPrev (t : Nat) : (s.setClock .pwm t).periodPrev = s.periodPrev := rfl
@[simp] theorem setClock_pwm_highPrev (t : Nat) : (s.setClock .pwm t).highPrev = s.highPrev := rfl
@[simp] theorem setClock_pwm_raceDraw (t : Nat) : (s.setClock .pwm t).raceDraw = s.raceDraw := rfl
@[simp] theorem setClock_pwm_misoDraw (t : Nat) : (s.setClock .pwm t).misoDraw = s.misoDraw := rfl
@[simp] theorem setClock_pwm_slave (t : Nat) : (s.setClock .pwm t).slave = s.slave := rfl
@[simp] theorem setClock_pwm_hostScript (t : Nat) : (s.setClock .pwm t).hostScript = s.hostScript := rfl
@[simp] theorem setClock_pwm_hostPolled (t : Nat) : (s.setClock .pwm t).hostPolled = s.hostPolled := rfl
@[simp] theorem setClock_pwm_hostDone (t : Nat) : (s.setClock .pwm t).hostDone = s.hostDone := rfl
@[simp] theorem setClock_pwm_hostLog (t : Nat) : (s.setClock .pwm t).hostLog = s.hostLog := rfl

@[simp] theorem clock_spi : s.clock .spi = s.spiClk := rfl
@[simp] theorem clock_pwm : s.clock .pwm = s.pwmClk := rfl
@[simp] theorem now_eq : s.now = s.ticks := rfl

end Sys2Proof.Machine
end

