-- ==== Sys2Proof/Laws/Ops.lean ====
section
/-! SUPPORT. One law for each shared operation: what it can do, said once. -/

namespace Sys2Proof.Machine

@[simp] theorem add_badModeValue (m : FaultMarks) :
    m.add .badModeValue = { m with badModeValue := true } := rfl
@[simp] theorem add_pwmZeroPeriod (m : FaultMarks) :
    m.add .pwmZeroPeriod = { m with pwmZeroPeriod := true } := rfl
@[simp] theorem add_zeroDelay (m : FaultMarks) : m.add .zeroDelay = { m with zeroDelay := true } := rfl
@[simp] theorem any_empty : FaultMarks.empty.any = false := rfl
@[simp] theorem empty_badModeValue : FaultMarks.empty.badModeValue = false := rfl
@[simp] theorem empty_pwmZeroPeriod : FaultMarks.empty.pwmZeroPeriod = false := rfl
@[simp] theorem empty_zeroDelay : FaultMarks.empty.zeroDelay = false := rfl

theorem any_eq_false {m : FaultMarks} :
    m.any = false ↔ m.badModeValue = false ∧ m.pwmZeroPeriod = false ∧ m.zeroDelay = false := by
  simp [FaultMarks.any, and_assoc]

section delay
variable {c : ClockReg} {inc : Nat} {k : State → State} {s : State}

theorem delayUntil_zero : delayUntil c 0 k s = s.mark .zeroDelay := rfl

theorem delayUntil_reached (hi : 1 ≤ inc) (h : s.clock c + inc ≤ s.ticks) :
    delayUntil c inc k s = k (s.setClock c (s.clock c + inc)) := by
  have : inc ≠ 0 := by omega
  simp [delayUntil, this, h]

theorem delayUntil_pending (h : s.ticks < s.clock c + inc) (hi : 1 ≤ inc) : delayUntil c inc k s = s := by
  have h1 : inc ≠ 0 := by omega
  have h2 : ¬ s.clock c + inc ≤ s.ticks := by omega
  simp [delayUntil, h1, h2]

theorem delayOver_iff : delayOver c inc s = true ↔ inc = 0 ∨ s.clock c + inc ≤ s.ticks := by
  simp [delayOver]

theorem delayOver_false : delayOver c inc s = false ↔ 1 ≤ inc ∧ s.ticks < s.clock c + inc := by
  rw [← Bool.not_eq_true, delayOver_iff]; omega

end delay

theorem sharedRead_or (b n : Payload) (f : Bool) : sharedRead b n f = b ∨ sharedRead b n f = n := by
  unfold sharedRead; split
  · exact .inr rfl
  · cases f <;> simp

@[simp] theorem sharedRead_same (n : Payload) (f : Bool) : sharedRead n n f = n := by simp [sharedRead]

theorem clampTo_toNat (h p : Payload) : (clampTo h p).toNat = min h.toNat p.toNat := by
  unfold clampTo; split <;> omega

theorem clampTo_le (h p : Payload) : (clampTo h p).toNat ≤ p.toNat := by rw [clampTo_toNat]; omega

theorem scaled_eq_zero {v : Payload} {n : Nat} : scaled v n = 0 ↔ v.toNat = 0 := by
  simp [scaled]

theorem scaled_pos {v : Payload} {n : Nat} : 1 ≤ scaled v n ↔ 1 ≤ v.toNat := by
  have := @scaled_eq_zero v n; omega

/-- The two waits of a general cycle add up to its period (R171). -/
theorem scaled_sub_add {p h : Payload} (n : Nat) (hle : h.toNat ≤ p.toNat) :
    scaled h n + scaled (p - h) n = scaled p n := by
  have : (p - h).toNat = p.toNat - h.toNat := by
    rw [BitVec.toNat_sub_of_le]; exact hle
  rw [scaled, scaled, scaled, this, ← Nat.add_mul, Nat.add_sub_cancel' hle]

theorem modeBit_zero : modeBit 0 = some false := rfl
theorem modeBit_one : modeBit 1 = some true := rfl

theorem modeBit_none {v : Payload} : modeBit v = none ↔ 1 < v.toNat := by
  unfold modeBit; split
  · simp; omega
  · split <;> simp <;> omega

theorem modeBit_some {v : Payload} {b : Bool} (h : modeBit v = some b) : b = v.getLsbD 0 ∧ v.toNat ≤ 1 := by
  unfold modeBit at h
  split at h
  · rename_i h0
    have : v = 0 := BitVec.eq_of_toNat_eq (by simpa using h0)
    subst this; simp at h; subst h; decide
  · split at h
    · rename_i h0 h1
      have : v = 1 := BitVec.eq_of_toNat_eq (by simpa using h1)
      subst this; simp at h; subst h; decide
    · simp at h

end Sys2Proof.Machine
end

