-- ==== Sys2Proof/Laws/Host.lean ====
section
/-! SUPPORT. What the host port answers, and what a step of the HOST can do. -/

namespace Sys2Proof.Machine

theorem hostTarget_cmd (p : Params) : hostTarget p (p.hostBase + 0x0) 4 = .ok .cmd := by
  simp [hostTarget, hostRegAt]
theorem hostTarget_cmdReady (p : Params) : hostTarget p (p.hostBase + 0x4) 4 = .ok .cmdReady := by
  simp [hostTarget, hostRegAt]
theorem hostTarget_resp (p : Params) : hostTarget p (p.hostBase + 0x8) 4 = .ok .resp := by
  simp [hostTarget, hostRegAt]
theorem hostTarget_respValid (p : Params) : hostTarget p (p.hostBase + 0xC) 4 = .ok .respValid := by
  simp [hostTarget, hostRegAt]

theorem hostTarget_outside {p : Params} {addr size : Nat} (h : addr < p.hostBase ∨ p.hostBase + 16 ≤ addr) :
    hostTarget p addr size = .error (.hostAccessOutside addr) := by
  unfold hostTarget
  rcases h with h | h
  · rw [if_pos h]
  · rw [if_neg (by omega), if_pos (by omega)]

theorem hostTarget_notAWord {p : Params} {addr size : Nat} (h1 : p.hostBase ≤ addr) (h2 : addr < p.hostBase + 16)
    (h : size ≠ 4 ∨ (addr - p.hostBase) % 4 ≠ 0) :
    hostTarget p addr size = .error (.hostAccessNotAWord addr size) := by
  unfold hostTarget
  rw [if_neg (by omega), if_neg (by omega)]
  by_cases hs : size ≠ 4
  · rw [if_pos hs]
  · have h4 := h.resolve_left hs
    rw [if_neg hs]
    have : hostRegAt (addr - p.hostBase) = none := by
      unfold hostRegAt
      rw [if_neg, if_neg, if_neg, if_neg] <;> omega
    rw [this]

/-- A HOST that has begun to wait is not ready before its wait is over. -/
theorem hostReady_notBefore {u : State} {n : Nat} {rest : List (Nat × HostAction)}
    (hs : u.hostScript = notBefore n rest) (h : u.ticks < n) : u.hostReady = false := by
  cases rest with
  | nil => simp [State.hostReady, hs, notBefore]
  | cons x r => simp [State.hostReady, hs, notBefore]; omega

/-- What an action other than the reset may change of the mailbox, and that it changes nothing else of the block. -/
theorem hostAct_frame {a : HostAction} {rest : List (Nat × HostAction)} {s t : State}
    (h : hostAct a rest s = .next t) (ha : ∀ slave, a ≠ .reset slave) :
    t = { s with
      cmdWord := t.cmdWord, cmdValid := t.cmdValid, respValid := t.respValid, hostLog := t.hostLog,
      hostScript := t.hostScript, hostPolled := t.hostPolled, hostDone := t.hostDone } ∧
    (s.cmdValid = true → t.cmdValid = true ∧ t.cmdWord = s.cmdWord) ∧ (t.respValid = true → s.respValid = true) := by
  cases a with
  | read addr size =>
    simp only [hostAct] at h
    split at h
    · rename_i r _
      cases h
      cases r <;> simp [State.hostNext, State.hostReads, State.afterHostRead, State.consumeResponse]
    · cases h
  | write addr size v =>
    simp only [hostAct] at h
    split at h
    · rename_i r _
      cases h
      cases r <;> simp [State.hostNext, State.hostWrites, State.afterHostWrite, State.postCommand]
      cases hv : s.cmdValid <;> simp [hv]
    · cases h
  | post w =>
    simp only [hostAct] at h
    split at h
    · cases h
      simp [State.hostNext, State.hostWrites, State.afterHostWrite, State.postCommand]
      cases hv : s.cmdValid <;> simp [hv]
    · cases h
      simp [State.hostPoll, State.hostReads, State.afterHostRead]
  | take =>
    simp only [hostAct] at h
    split at h <;> cases h <;>
      simp [State.hostNext, State.hostPoll, State.hostReads, State.afterHostRead, State.consumeResponse]
  | wait n => cases h; simp [State.hostNext]
  | reset slave => exact absurd rfl (ha slave)

/-- A step of the HOST that is not the reset changes the mailbox and the HOST's own records, nothing else. -/
theorem hostStep_frame {s t : State} (h : hostStep s = .next t) (hr : s.hostReady = true)
    (hn : ∀ n slave rest, s.hostScript ≠ (n, .reset slave) :: rest) :
    t = { s with
      cmdWord := t.cmdWord, cmdValid := t.cmdValid, respValid := t.respValid, hostLog := t.hostLog,
      hostScript := t.hostScript, hostPolled := t.hostPolled, hostDone := t.hostDone } ∧
    (s.cmdValid = true → t.cmdValid = true ∧ t.cmdWord = s.cmdWord) ∧ (t.respValid = true → s.respValid = true) := by
  unfold hostStep at h
  split at h
  · rename_i hs; simp [State.hostReady, hs] at hr
  · rename_i n a rest hs
    exact hostAct_frame h fun slave e => hn n slave rest (e ▸ hs)

/-- A step of the HOST is the reset or none. -/
theorem hostStep_cases {s t : State} (h : hostStep s = .next t) (hr : s.hostReady = true) :
    (∃ n slave rest, s.hostScript = (n, .reset slave) :: rest ∧ t = s.resetNow slave rest) ∨
    (∀ n slave rest, s.hostScript ≠ (n, .reset slave) :: rest) := by
  unfold hostStep at h
  split at h
  · rename_i hs; simp [State.hostReady, hs] at hr
  · rename_i n a rest hs
    cases a with
    | reset slave => exact .inl ⟨n, slave, rest, hs, by simp only [hostAct] at h; cases h; rfl⟩
    | read _ _ => exact .inr (by rw [hs]; intros; simp)
    | write _ _ _ => exact .inr (by rw [hs]; intros; simp)
    | post _ => exact .inr (by rw [hs]; intros; simp)
    | take => exact .inr (by rw [hs]; intros; simp)
    | wait _ => exact .inr (by rw [hs]; intros; simp)

end Sys2Proof.Machine
end

