-- ==== Sys2Proof/Laws/PerInstr.lean ====
section
/-! SUPPORT. Statements about every instruction, one lemma for each constructor: the encoder and the decoder agree on
it (30_encoding.md rule R102). -/

namespace Sys2Proof.Laws.EncodeRoundTrip

/-- The word the encoder gives an instruction decodes to it, in a block that has the command (R96, R101, R102). -/
def Statement (i : Instr) : Prop :=
  ∀ (hasCs : Bool) (w : Word), encode i = some w → (∀ v, i = .setCs v → hasCs = true) →
    decode hasCs w = .command i

theorem setPeriod (n : Payload) : Statement (.setPeriod n) := by
  rintro hasCs w h -; simp [encode, opcodeNumber, payloadNumber] at h; subst h
  rw [decode_joinWord]; rfl
theorem setHighTime (n : Payload) : Statement (.setHighTime n) := by
  rintro hasCs w h -; simp [encode, opcodeNumber, payloadNumber] at h; subst h
  rw [decode_joinWord]; rfl
theorem setPolarity (v : Payload) : Statement (.setPolarity v) := by
  rintro hasCs w h -; simp [encode, opcodeNumber, payloadNumber] at h; subst h
  rw [decode_joinWord]; rfl
theorem transferNow (byte : Byte) : Statement (.transferNow byte) := by
  rintro hasCs w h -
  simp only [encode, opcodeNumber, payloadNumber, Option.map_some, Option.some.injEq] at h; subst h
  rw [decode_joinWord]
  show Decoded.command (.transferNow (payloadByte (byte.zeroExtend 24))) = _
  rw [payloadByte_of_byte]
theorem setPhase (v : Payload) : Statement (.setPhase v) := by
  rintro hasCs w h -; simp [encode, opcodeNumber, payloadNumber] at h; subst h
  rw [decode_joinWord]; rfl
theorem setCs (v : Bool) : Statement (.setCs v) := by
  rintro hasCs w h hc
  simp only [encode, opcodeNumber, payloadNumber, Option.map_some, Option.some.injEq] at h; subst h
  rw [decode_joinWord, hc v rfl]
  show Decoded.command (.setCs (payloadBit ((BitVec.ofBool v).zeroExtend 24))) = _
  rw [payloadBit_of_bit]
theorem now (c : ClockReg) : Statement (.now c) := by rintro _ _ h -; simp [encode, opcodeNumber] at h
theorem delayUntil (c : ClockReg) (inc : Nat) : Statement (.delayUntil c inc) := by
  rintro _ _ h -; simp [encode, opcodeNumber] at h
theorem transfer (w : Byte) : Statement (.transfer w) := by rintro _ _ h -; simp [encode, opcodeNumber] at h
theorem pwmCycle : Statement .pwmCycle := by rintro _ _ h -; simp [encode, opcodeNumber] at h
theorem fetch : Statement .fetch := by rintro _ _ h -; simp [encode, opcodeNumber] at h
theorem publish : Statement .publish := by rintro _ _ h -; simp [encode, opcodeNumber] at h

end Sys2Proof.Laws.EncodeRoundTrip
end

