-- ==== Sys2Proof/Laws/Pwm.lean ====
section
/-! SUPPORT. What each stretch of the PWM cycle does. -/

namespace Sys2Proof.Machine

variable {s : State}

/-- The snapshot touches PWM's snapshot registers, its phase, its mark, and what the model keeps of the race. -/
theorem pwmSnap_cases (s : State) :
    ∃ p h, (p = s.periodPrev ∨ p = s.period) ∧ (h = s.highPrev ∨ h = s.highTime) ∧
      (s.periodPrev = s.period → p = s.period) ∧ (s.highPrev = s.highTime → h = s.highTime) ∧
      ((p.toNat = 0 ∧ pwmSnap s = { s with
          snapP := p, snapH := clampTo h p, periodPrev := p, highPrev := h, raceDraw := s.raceDraw + 2,
          fault := { s.fault with pwmZeroPeriod := true } }) ∨
       (1 ≤ p.toNat ∧ pwmSnap s = { s with
          snapP := p, snapH := clampTo h p, periodPrev := p, highPrev := h, raceDraw := s.raceDraw + 2,
          pwmPhase := .start })) := by
  let p := sharedRead s.periodPrev s.period (Config.writeFirst s.raceDraw)
  let h := sharedRead s.highPrev s.highTime (Config.writeFirst (s.raceDraw + 1))
  refine ⟨p, h, sharedRead_or .., sharedRead_or .., fun e => ?_, fun e => ?_, ?_⟩
  · show sharedRead _ _ _ = _
    rw [e, sharedRead_same]
  · show sharedRead _ _ _ = _
    rw [e, sharedRead_same]
  · by_cases hp : p.toNat = 0
    · exact .inl ⟨hp, by unfold pwmSnap; exact if_pos hp⟩
    · exact .inr ⟨by omega, by unfold pwmSnap; exact if_neg hp⟩

/-- The first pin action of a cycle by its case (R166 to R169). -/
theorem pwmAct_cases (s : State) :
    (s.snapP.toNat ≤ s.snapH.toNat ∧ pwmAct s = { s with pwmOut := true, cct := s.snapP, pwmPhase := .snap }) ∨
    (s.snapH.toNat < s.snapP.toNat ∧ s.snapH.toNat = 0 ∧
      pwmAct s = { s with pwmOut := false, cct := s.snapP, pwmPhase := .snap }) ∨
    (s.snapH.toNat < s.snapP.toNat ∧ 1 ≤ s.snapH.toNat ∧ pwmAct s = { s with pwmOut := true, pwmPhase := .fall }) := by
  by_cases h1 : s.snapP.toNat ≤ s.snapH.toNat
  · exact .inl ⟨h1, by simp [pwmAct, h1]⟩
  · by_cases h2 : s.snapH.toNat = 0
    · exact .inr (.inl ⟨by omega, h2, by rw [pwmAct, if_neg h1, if_pos h2]⟩)
    · exact .inr (.inr ⟨by omega, by omega, by rw [pwmAct, if_neg h1, if_neg h2]⟩)

/-- The owed wait (R165): it is over, also when nothing is owed, or PWM waits. -/
theorem pwmStart_cases (s : State) :
    (s.pwmClk + scaled s.cct s.cfg.pwmShift ≤ s.ticks ∨ s.cct.toNat = 0) ∧
      pwmStart s = pwmAct (s.setClock .pwm (s.pwmClk + scaled s.cct s.cfg.pwmShift)) ∨
    (s.ticks < s.pwmClk + scaled s.cct s.cfg.pwmShift ∧ 1 ≤ s.cct.toNat ∧ pwmStart s = s) := by
  by_cases h0 : scaled s.cct s.cfg.pwmShift = 0
  · exact .inl ⟨.inr (scaled_eq_zero.1 h0), by simp [pwmStart, h0, State.setClock]⟩
  · have h1 : 1 ≤ scaled s.cct s.cfg.pwmShift := by omega
    by_cases h : s.pwmClk + scaled s.cct s.cfg.pwmShift ≤ s.ticks
    · exact .inl ⟨.inl h, by rw [pwmStart, if_neg h0]; exact delayUntil_reached h1 h⟩
    · exact .inr ⟨by omega, scaled_pos.1 h1, by
        rw [pwmStart, if_neg h0]; exact delayUntil_pending (by simpa using Nat.lt_of_not_le h) h1⟩

/-- The inner wait of a general cycle (R169). -/
theorem pwmFall_cases (hh : 1 ≤ s.snapH.toNat) :
    (s.pwmClk + scaled s.snapH s.cfg.pwmShift ≤ s.ticks ∧
      pwmFall s = pwmLower (s.setClock .pwm (s.pwmClk + scaled s.snapH s.cfg.pwmShift))) ∨
    (s.ticks < s.pwmClk + scaled s.snapH s.cfg.pwmShift ∧ pwmFall s = s) := by
  have h1 : 1 ≤ scaled s.snapH s.cfg.pwmShift := scaled_pos.2 hh
  by_cases h : s.pwmClk + scaled s.snapH s.cfg.pwmShift ≤ s.ticks
  · exact .inl ⟨h, delayUntil_reached h1 h⟩
  · exact .inr ⟨by omega, delayUntil_pending (by simpa using Nat.lt_of_not_le h) h1⟩

end Sys2Proof.Machine
end

