-- ==== Sys2Proof/Laws/Spi.lean ====
section
/-! SUPPORT. The slots of a transfer against the table of 41_spi_transfer.md rule R132, and what the start and one
stretch of a transfer do. -/

namespace Sys2Proof.Machine

theorem slotKind_phase0_drive {j : Nat} (h : j < 8) : slotKind false (1 + 2 * j) = .drive (7 - j) := by
  have : j = 0 ∨ j = 1 ∨ j = 2 ∨ j = 3 ∨ j = 4 ∨ j = 5 ∨ j = 6 ∨ j = 7 := by omega
  rcases this with rfl | rfl | rfl | rfl | rfl | rfl | rfl | rfl <;> rfl

theorem slotKind_phase0_sample {j : Nat} (h : j < 8) : slotKind false (2 + 2 * j) = .sample (7 - j) := by
  have : j = 0 ∨ j = 1 ∨ j = 2 ∨ j = 3 ∨ j = 4 ∨ j = 5 ∨ j = 6 ∨ j = 7 := by omega
  rcases this with rfl | rfl | rfl | rfl | rfl | rfl | rfl | rfl <;> rfl

theorem slotKind_phase1_drive {j : Nat} (h : j < 8) : slotKind true (2 * j) = .drive (7 - j) := by
  have : j = 0 ∨ j = 1 ∨ j = 2 ∨ j = 3 ∨ j = 4 ∨ j = 5 ∨ j = 6 ∨ j = 7 := by omega
  rcases this with rfl | rfl | rfl | rfl | rfl | rfl | rfl | rfl <;> rfl

theorem slotKind_phase1_sample {j : Nat} (h : j < 8) : slotKind true (2 * j + 1) = .sample (7 - j) := by
  have : j = 0 ∨ j = 1 ∨ j = 2 ∨ j = 3 ∨ j = 4 ∨ j = 5 ∨ j = 6 ∨ j = 7 := by omega
  rcases this with rfl | rfl | rfl | rfl | rfl | rfl | rfl | rfl <;> rfl

theorem slotKind_dummy : slotKind false 0 = .dummy := rfl
theorem slotKind_return : slotKind false 17 = .ret := rfl

/-- Every slot number of a transfer names one row of the table. -/
theorem slotKind_cases {a : Bool} {k : Nat} (hk : k < slotCount a) :
    (a = false ∧ k = 0 ∧ slotKind a k = .dummy) ∨
    (a = false ∧ k = 17 ∧ slotKind a k = .ret) ∨
    (∃ j, j < 8 ∧ k = (if a then 2 * j else 1 + 2 * j) ∧ slotKind a k = .drive (7 - j)) ∨
    (∃ j, j < 8 ∧ k = sampleSlot a j ∧ slotKind a k = .sample (7 - j)) := by
  cases a
  · have hk' : k < 18 := hk
    by_cases h0 : k = 0
    · exact .inl ⟨rfl, h0, h0 ▸ slotKind_dummy⟩
    by_cases h17 : k = 17
    · exact .inr (.inl ⟨rfl, h17, h17 ▸ slotKind_return⟩)
    by_cases hp : k % 2 = 1
    · refine .inr (.inr (.inl ⟨(k - 1) / 2, by omega, by simp; omega, ?_⟩))
      have h : k = 1 + 2 * ((k - 1) / 2) := by omega
      conv_lhs => rw [h]
      exact slotKind_phase0_drive (by omega)
    · refine .inr (.inr (.inr ⟨(k - 2) / 2, by omega, by simp [sampleSlot]; omega, ?_⟩))
      have h : k = 2 + 2 * ((k - 2) / 2) := by omega
      conv_lhs => rw [h]
      exact slotKind_phase0_sample (by omega)
  · have hk' : k < 16 := hk
    by_cases hp : k % 2 = 0
    · refine .inr (.inr (.inl ⟨k / 2, by omega, by simp; omega, ?_⟩))
      have h : k = 2 * (k / 2) := by omega
      conv_lhs => rw [h]
      exact slotKind_phase1_drive (by omega)
    · refine .inr (.inr (.inr ⟨k / 2, by omega, by simp [sampleSlot]; omega, ?_⟩))
      have h : k = 2 * (k / 2) + 1 := by omega
      conv_lhs => rw [h]
      exact slotKind_phase1_sample (by omega)

/-- The shift-and-or of a sample is the concatenation of R136. -/
theorem shiftIn_eq (r : Byte) (v : Bool) : shiftIn r v = r.extractLsb' 0 7 ++ BitVec.ofBool v := by
  revert r v; decide +revert

/-- A slot action touches the two SPI outputs, the accumulator and the count of samples, nothing else. -/
theorem slotAction_frame (kind : SlotKind) (s : State) :
    slotAction kind s = { s with
      sclk := (slotAction kind s).sclk, mosi := (slotAction kind s).mosi, racc := (slotAction kind s).racc,
      misoDraw := (slotAction kind s).misoDraw } := by
  cases kind <;> rfl

/-- What the start of a transfer leaves (R133 with slot 0 of R132). -/
theorem transferStart_eq (w : Byte) (s : State) :
    transferStart w s = { s with
      spiClk := s.ticks, wbyte := w, racc := 0, spiSlot := 1, decState := .xfer,
      sclk := if s.cpha then !s.cpol else s.cpol, mosi := w.getLsbD 7 } := by
  rcases s with ⟨⟩
  rename_i cpha _ _ _ _ _ _ _ _ _ _ _ _ _ _ _ _ _ _ _ _ _ _ _ _ _
  cases cpha <;> simp [transferStart, slotStep, slotAction, slotKind, State.drivePins, bitOf, State.now]

/-- One stretch of a transfer under way: it waits, it returns, or it acts the slot its number names. -/
theorem transferResume_cases {s : State} (hH : 1 ≤ s.cfg.halfTicks) :
    (s.ticks < s.spiClk + s.cfg.halfTicks ∧ transferResume s = s) ∨
    (s.spiClk + s.cfg.halfTicks ≤ s.ticks ∧ s.spiSlot.toNat = slotCount s.cpha ∧
      transferResume s = { s with spiClk := s.spiClk + s.cfg.halfTicks, decState := .publish }) ∨
    (s.spiClk + s.cfg.halfTicks ≤ s.ticks ∧ s.spiSlot.toNat ≠ slotCount s.cpha ∧
      transferResume s = slotStep (s.setClock .spi (s.spiClk + s.cfg.halfTicks))) := by
  by_cases h : s.spiClk + s.cfg.halfTicks ≤ s.ticks
  · have hr : transferResume s = slotOrReturn (s.setClock .spi (s.spiClk + s.cfg.halfTicks)) :=
      delayUntil_reached hH h
    by_cases hk : s.spiSlot.toNat = slotCount s.cpha
    · exact .inr (.inl ⟨h, hk, by rw [hr]; simp [slotOrReturn, hk, State.setClock]⟩)
    · exact .inr (.inr ⟨h, hk, by rw [hr]; simp [slotOrReturn, hk]⟩)
  · exact .inl ⟨by omega, delayUntil_pending (by simpa using Nat.lt_of_not_le h) hH⟩

end Sys2Proof.Machine
end

