-- ==== Sys2Proof/Laws/Step.lean ====
section
/-! SUPPORT. What one step of the machine can do, said once: whose step it is, and what DEC's step is. -/

namespace Sys2Proof.Machine

/-- Every meaning answers a next state: the marks of R46 stand in the state, the stop in `step`. -/
theorem exec_next (i : Instr) (s : State) : ∃ t, exec i s = .next t := by
  cases i with
  | setPolarity v => simp only [exec, execSetPolarity]; split <;> exact ⟨_, rfl⟩
  | setPhase v => simp only [exec, execSetPhase]; split <;> exact ⟨_, rfl⟩
  | setCs v => simp only [exec, execSetCs]; split <;> exact ⟨_, rfl⟩
  | transfer w => simp only [exec, execTransfer]; split <;> exact ⟨_, rfl⟩
  | pwmCycle => simp only [exec, execPwmCycle]; split <;> exact ⟨_, rfl⟩
  | publish => simp only [exec, execPublish]; split <;> exact ⟨_, rfl⟩
  | setPeriod n => exact ⟨_, rfl⟩
  | setHighTime n => exact ⟨_, rfl⟩
  | transferNow b => exact ⟨_, rfl⟩
  | now c => exact ⟨_, rfl⟩
  | delayUntil c inc => exact ⟨_, rfl⟩
  | fetch => exact ⟨_, rfl⟩

theorem withinTicks_next {o : Host.Outcome State Fault Refusal} {t : State} :
    withinTicks o = .next t ↔ o = .next t ∧ t.ticksFit = true := by
  cases o with
  | next u =>
    simp only [withinTicks]
    split
    · rename_i hu
      constructor
      · intro h; cases h; exact ⟨rfl, hu⟩
      · rintro ⟨h, -⟩; cases h; rfl
    · rename_i hu
      constructor
      · intro h; cases h
      · rintro ⟨h, hf⟩; cases h; exact absurd hf hu
  | fault r => simp [withinTicks]
  | refused r => simp [withinTicks]

theorem withinTicks_of_fit {t : State} (h : t.ticksFit = true) : withinTicks (.next t) = .next t := by
  simp [withinTicks, h]

/-- Whose step it is (R214, R129). -/
theorem step_cases {s t : State} (h : step s = .next t) :
    (s.hostReady = true ∧ s.fault.any = false ∧ hostStep s = .next t) ∨
    ((s.hostReady = false ∨ s.fault.any = true) ∧ s.decReady = true ∧ decStep s = .next t) ∨
    ((s.hostReady = false ∨ s.fault.any = true) ∧ s.decReady = false ∧ s.pwmReady = true ∧
      exec .pwmCycle s = .next t) ∨
    (s.hostReady = false ∧ s.decReady = false ∧ s.pwmReady = false ∧ s.fault.any = false ∧ t = s.tick) := by
  have h := (withinTicks_next.1 h).1
  unfold agentStep at h
  by_cases h1 : (s.hostReady && !s.fault.any) = true
  · rw [if_pos h1] at h
    simp at h1
    exact .inl ⟨h1.1, h1.2, h⟩
  · rw [if_neg h1] at h
    have h1' : s.hostReady = false ∨ s.fault.any = true := by
      revert h1; cases s.hostReady <;> cases s.fault.any <;> simp
    by_cases h2 : s.decReady = true
    · rw [if_pos h2] at h
      exact .inr (.inl ⟨h1', h2, h⟩)
    · rw [if_neg h2] at h
      by_cases h3 : s.pwmReady = true
      · rw [if_pos h3] at h
        exact .inr (.inr (.inl ⟨h1', by simpa using h2, h3, h⟩))
      · rw [if_neg h3] at h
        by_cases h4 : s.fault.any = true
        · rw [if_pos h4] at h; cases h
        · rw [if_neg h4] at h
          cases h
          exact .inr (.inr (.inr ⟨h1'.resolve_right h4, by simpa using h2, by simpa using h3, by simpa using h4, rfl⟩))

/-- DEC has a step: nothing of its own has faulted, and it is not waiting (R129). -/
theorem decReady_iff {s : State} :
    s.decReady = true ↔ s.fault.badModeValue = false ∧ s.fault.zeroDelay = false ∧
      ((s.decState = .idle ∧ s.cmdValid = true) ∨
       (s.decState = .xfer ∧ (s.cfg.halfTicks = 0 ∨ s.spiClk + s.cfg.halfTicks ≤ s.ticks)) ∨
       (s.decState = .publish ∧ s.respValid = false)) := by
  unfold State.decReady
  cases s.decState <;> simp [delayOver_iff, and_assoc]

/-- PWM has a step: nothing of its own has faulted, and it is not waiting (R129). -/
theorem pwmReady_iff {s : State} :
    s.pwmReady = true ↔ s.fault.pwmZeroPeriod = false ∧ s.fault.zeroDelay = false ∧
      (s.pwmPhase = .snap ∨
       (s.pwmPhase = .start ∧
        (s.cct.toNat = 0 ∨ s.pwmClk + scaled s.cct s.cfg.pwmShift ≤ s.ticks)) ∨
       (s.pwmPhase = .fall ∧
        (s.snapH.toNat = 0 ∨ s.pwmClk + scaled s.snapH s.cfg.pwmShift ≤ s.ticks))) := by
  unfold State.pwmReady
  cases s.pwmPhase <;> simp [delayOver_iff, and_assoc, scaled_eq_zero]

/-- The decoder, by the opcode (R96). -/
theorem decodeFields_cases (hasCs : Bool) (op : Opcode) (p : Payload) :
    decodeFields hasCs op p = .command (.setPeriod p) ∨
    decodeFields hasCs op p = .command (.setHighTime p) ∨
    decodeFields hasCs op p = .command (.setPolarity p) ∨
    decodeFields hasCs op p = .command (.transferNow (payloadByte p)) ∨
    decodeFields hasCs op p = .command (.setPhase p) ∨
    (hasCs = true ∧ decodeFields hasCs op p = .command (.setCs (payloadBit p))) ∨
    decodeFields hasCs op p = .reserved op := by
  unfold decodeFields
  split <;> simp [payloadWhole]

/-- What a step of DEC does, by where it stands (R180). -/
theorem decStep_cases {s t : State} (h : decStep s = .next t) :
    (s.decState = .idle ∧
      ((∃ n, decode s.cfg.hasCs s.cmdWord = .command (.setPeriod n) ∧
          t = { s.latchCommand with period := n, decState := .idle }) ∨
       (∃ n, decode s.cfg.hasCs s.cmdWord = .command (.setHighTime n) ∧
          t = { s.latchCommand with highTime := n, decState := .idle }) ∨
       (∃ v b, decode s.cfg.hasCs s.cmdWord = .command (.setPolarity v) ∧
          t = { s.latchCommand with cpol := b, decState := .idle }) ∨
       (∃ v b, decode s.cfg.hasCs s.cmdWord = .command (.setPhase v) ∧
          t = { s.latchCommand with cpha := b, decState := .idle }) ∨
       (∃ v, decode s.cfg.hasCs s.cmdWord = .command (.setCs v) ∧
          t = { s.latchCommand with csN := v, decState := .idle }) ∨
       t = { s.latchCommand with fault := { s.fault with badModeValue := true }, decState := .idle } ∨
       (∃ b, decode s.cfg.hasCs s.cmdWord = .command (.transferNow b) ∧ t = transferStart b s.latchCommand) ∨
       t = { s.latchCommand with decState := .idle })) ∨
    (s.decState = .xfer ∧ t = transferResume s) ∨
    (s.decState = .publish ∧ s.respValid = false ∧
      t = { s with respByte := s.racc, respValid := true, decState := .idle }) ∨
    (s.decState = .publish ∧ s.respValid = true ∧ t = s) := by
  unfold decStep at h
  split at h
  · rename_i hs
    refine .inl ⟨hs, ?_⟩
    simp only [exec, execFetch] at h
    unfold runLatched at h
    rcases decodeFields_cases s.cfg.hasCs (opcodeOf s.cmdWord) (payloadOf s.cmdWord) with
      hd | hd | hd | hd | hd | ⟨hc, hd⟩ | hd <;>
      simp only [latchCommand_cfg, latchCommand_decOp, latchCommand_decPayload, hd] at h
    · cases h; exact .inl ⟨_, hd, rfl⟩
    · cases h; exact .inr (.inl ⟨_, hd, rfl⟩)
    · simp only [exec, execSetPolarity] at h
      split at h
      · cases h; exact .inr (.inr (.inl ⟨_, _, hd, rfl⟩))
      · cases h; exact .inr (.inr (.inr (.inr (.inr (.inl rfl)))))
    · cases h; exact .inr (.inr (.inr (.inr (.inr (.inr (.inl ⟨_, hd, rfl⟩))))))
    · simp only [exec, execSetPhase] at h
      split at h
      · cases h; exact .inr (.inr (.inr (.inl ⟨_, _, hd, rfl⟩)))
      · cases h; exact .inr (.inr (.inr (.inr (.inr (.inl rfl)))))
    · simp only [exec, execSetCs, latchCommand_cfg, hc, if_true] at h
      cases h; exact .inr (.inr (.inr (.inr (.inl ⟨_, hd, rfl⟩))))
    · cases h; exact .inr (.inr (.inr (.inr (.inr (.inr (.inr rfl))))))
  · rename_i hs
    simp only [exec, execTransfer, hs] at h
    cases h; exact .inr (.inl ⟨hs, rfl⟩)
  · rename_i hs
    simp only [exec, execPublish] at h
    split at h
    · rename_i hv
      cases h; exact .inr (.inr (.inr ⟨hs, hv, by rcases s with ⟨⟩; simp_all⟩))
    · rename_i hv
      cases h; exact .inr (.inr (.inl ⟨hs, by simpa using hv, rfl⟩))

/-- What a step of PWM does, by where it stands (R174). -/
theorem pwmStep_cases {s t : State} (h : exec .pwmCycle s = .next t) :
    (s.pwmPhase = .snap ∧ t = pwmSnap s) ∨ (s.pwmPhase = .start ∧ t = pwmStart s) ∨
    (s.pwmPhase = .fall ∧ t = pwmFall s) := by
  simp only [exec, execPwmCycle] at h
  split at h <;> rename_i hs <;> cases h
  · exact .inl ⟨hs, rfl⟩
  · exact .inr (.inl ⟨hs, rfl⟩)
  · exact .inr (.inr ⟨hs, rfl⟩)

/-- What a step of PWM can touch (R52). -/
theorem pwmStep_frame {s t : State} (h : exec .pwmCycle s = .next t) :
    t = { s with
      pwmClk := t.pwmClk, cct := t.cct, pwmPhase := t.pwmPhase, snapP := t.snapP, snapH := t.snapH,
      pwmOut := t.pwmOut, periodPrev := t.periodPrev, highPrev := t.highPrev, raceDraw := t.raceDraw,
      fault := t.fault } := by
  rcases pwmStep_cases h with ⟨-, rfl⟩ | ⟨-, rfl⟩ | ⟨-, rfl⟩
  · obtain ⟨_, _, -, -, -, -, ⟨-, e⟩ | ⟨-, e⟩⟩ := pwmSnap_cases s <;> rw [e]
  · rcases pwmStart_cases s with ⟨-, e⟩ | ⟨-, -, e⟩ <;> rw [e]
    rcases pwmAct_cases (s.setClock .pwm (s.pwmClk + scaled s.cct s.cfg.pwmShift)) with
      ⟨-, e⟩ | ⟨-, -, e⟩ | ⟨-, -, e⟩ <;> rw [e] <;> rfl
  · unfold pwmFall delayUntil
    split
    · rfl
    · split <;> rfl

/-- What a stretch of a transfer can touch (R130). -/
theorem transferResume_frame (s : State) :
    transferResume s = { s with
      spiClk := (transferResume s).spiClk, spiSlot := (transferResume s).spiSlot,
      decState := (transferResume s).decState, sclk := (transferResume s).sclk, mosi := (transferResume s).mosi,
      racc := (transferResume s).racc, misoDraw := (transferResume s).misoDraw,
      fault := (transferResume s).fault } := by
  unfold transferResume delayUntil
  split
  · rfl
  · split
    · unfold slotOrReturn
      split
      · rfl
      · unfold slotStep; rw [slotAction_frame]; rfl
    · rfl

end Sys2Proof.Machine
end

