-- ==== Sys2Proof/Tests/Slice0.lean ====
section
/-! SUPPORT. The model's own tests: ill-formed terms the check refuses, words written out from the encoding, steps
taken from the vectors of 95_test_vectors.md, and for each statement with hypotheses a state that meets them. -/

namespace Sys2Proof.Tests

open Sys2Proof Sys2Proof.Machine

/-- The next state, if there is one. -/
def nextOf : Host.Outcome State Fault Refusal → Option State
  | .next t => some t
  | .fault _ => none
  | .refused _ => none

/-- The refusal, if there is one. -/
def refusalOf : Host.Outcome State Fault Refusal → Option Refusal
  | .next _ => none
  | .fault _ => none
  | .refused r => some r

/-- The fault, if there is one. -/
def faultOf : Host.Outcome State Fault Refusal → Option Fault
  | .next _ => none
  | .fault r => some r
  | .refused _ => none

/-! ## Small states -/

/-- After reset, with a command word waiting. -/
def pending (w : Word) : State := { State.reset with cmdWord := w, cmdValid := true }

/-- After reset, inside a transfer of `0x4A` in a wire loop, waiting in slot `k` with its deadline reached at instant
`k` (`H = 1`, started at 0). -/
def waiting (c a : Bool) (k : Nat) : State :=
  { State.reset with
    decState := .xfer, wbyte := 0x4A, cpol := c, cpha := a, spiSlot := BitVec.ofNat 5 k, spiClk := k - 1, ticks := k,
    pwmClk := k, slave := .echo, sclk := slotClock c a (k - 1), mosi := slotData 0x4A a (k - 1),
    racc := (0x4A : Byte) >>> (8 - sampledBefore a k) }

/-- PWM waiting at the start of a cycle that begins now. -/
def starting (p h owed : Payload) : State :=
  { State.reset with pwmPhase := .start, snapP := p, snapH := h, cct := owed, pwmClk := 28 - owed.toNat, ticks := 28 }

/-- PWM waiting for the fall of a cycle with period 10 and high time 5 that rose at instant 4. -/
def falling (now : Nat) : State :=
  { State.reset with pwmPhase := .fall, snapP := 10, snapH := 5, pwmClk := 4, ticks := now }

/-- After reset with a HOST that acts at once. -/
def acting (a : HostAction) : State := { State.reset with hostScript := [(0, a)] }

/-- Nothing to do at instant 1: PWM waits until 2. -/
def resting : State := { State.reset with pwmPhase := .start, snapP := 2, cct := 2, ticks := 1 }

/-! ## The well-formedness check (R91, R98, R121) -/

theorem test_wf_refuses_polarity_two : (Instr.setPolarity 2).wf = false := by decide
theorem test_wf_refuses_phase_max : (Instr.setPhase 0xFFFFFF).wf = false := by decide
theorem test_wf_refuses_zero_delay : (Instr.delayUntil .spi 0).wf = false := by decide
theorem test_wf_admits_modes : (Instr.setPolarity 1).wf = true ∧ (Instr.setPhase 0).wf = true := by decide

/-! ## Written words (R90, R96; vectors VE1 to VE12) -/

theorem test_decode_set_period :
    decode true 0b00000001_000000000000001111101000 = .command (.setPeriod 1000) := by decide
theorem test_decode_set_high_time :
    decode true 0b00000010_000000000000000011111010 = .command (.setHighTime 250) := by decide
theorem test_decode_set_polarity :
    decode true 0b00000011_000000000000000000000001 = .command (.setPolarity 1) := by decide
theorem test_decode_set_polarity_two :
    decode true 0b00000011_000000000000000000000010 = .command (.setPolarity 2) := by decide
theorem test_decode_transfer_now :
    decode true 0b00000100_101010111100110101001010 = .command (.transferNow 0x4A) := by decide
theorem test_decode_set_phase :
    decode true 0b00000101_000000000000000000000001 = .command (.setPhase 1) := by decide
theorem test_decode_set_cs :
    decode true 0b00000110_111111111111111111111110 = .command (.setCs false) := by decide
theorem test_decode_largest_period : decode true 0x01FFFFFF = .command (.setPeriod 16777215) := by decide
theorem test_decode_reserved :
    decode true 0x00000000 = .reserved 0x00 ∧ decode true 0x07000000 = .reserved 0x07 ∧
      decode true 0xFF123456 = .reserved 0xFF ∧ decode false 0x06000001 = .reserved 0x06 := by decide
theorem test_encode_examples :
    encode (.setPeriod 1000) = some 0x010003E8 ∧ encode (.setHighTime 250) = some 0x020000FA ∧
      encode (.setPolarity 1) = some 0x03000001 ∧ encode (.transferNow 0x4A) = some 0x0400004A ∧
      encode (.setPhase 1) = some 0x05000001 ∧ encode (.setCs false) = some 0x06000000 := by decide
theorem test_internal_operations_have_no_word :
    encode (.now .pwm) = none ∧ encode (.transfer 0x4A) = none ∧ encode .fetch = none := by decide
theorem test_table_word : decodeTableWord 32 0x04000000 = some (.transferNow 0) := by decide

/-- VE7: read of address 2, write of address 2, write of address `0x3F`, read of address 0. -/
theorem test_accel_opcodes :
    accelOpcode false 2 = 0x04 ∧ accelOpcode true 2 = 0x84 ∧ accelOpcode true 0x3F = 0xFE ∧
      accelOpcode false 0 = 0x00 := by decide

/-- VE13. -/
theorem test_packed_words :
    packGpo false false = 0 ∧ packGpo false true = 1 ∧ packGpo true false = 4 ∧ packGpo true true = 5 := by decide

/-- The lines of program P3, and operands in the three notations (R103). -/
theorem test_assembler :
    assemble ["SET_MODE 1, 1 ; the slave's mode", "SELECT", "TRANSFER_NOW 0x04", "TAKE x0", "", "POST SET_PERIOD 0b101"] =
      some [.setMode 1 1, .select, .command (.transferNow 4), .take, .command (.setPeriod 5)] := by decide
theorem test_assembler_refuses :
    assemble ["TRANSFER_NOW 256"] = none ∧ assemble ["POST SELECT"] = none ∧ assemble ["SET_PERIOD 1F"] = none ∧ assemble ["NOP 0"] = none := by decide

theorem test_host_program :
    hostProgram 1 [.setMode 1 0, .take] = [(1, .post 0x03000001), (1, .post 0x05000000), (1, .take)] := by decide

/-! ## One step of each command and operation, from the vectors -/

/-- VD2: posted with DEC idle, fetched and executed at the same instant. -/
theorem test_set_period :
    (nextOf (step (pending 0x01000008))).map (fun t => (t.period, t.cmdValid, t.decOp, t.decState, t.ticks)) =
      some (8, false, 0x01, .idle, 0) := by decide
theorem test_set_high_time_keeps_the_period :
    (nextOf (step (pending 0x02FFFFFF))).map (fun t => (t.highTime, t.period, t.fault)) =
      some (0xFFFFFF, 2, .empty) := by decide
/-- V16: the clock line does not move. -/
theorem test_set_polarity :
    (nextOf (step (pending 0x03000001))).map (fun t => (t.cpol, t.cpha, t.sclk)) = some (true, false, false) := by decide
/-- V17, VF1. -/
theorem test_set_polarity_two_marks :
    (nextOf (step (pending 0x03000002))).map (fun t => (t.cpol, t.fault)) =
      some (false, { badModeValue := true, pwmZeroPeriod := false, zeroDelay := false }) := by decide
theorem test_set_phase :
    (nextOf (step (pending 0x05000001))).map (fun t => (t.cpol, t.cpha)) = some (false, true) := by decide
theorem test_set_phase_max_marks :
    (nextOf (step (pending 0x05FFFFFF))).map (fun t => (t.cpha, t.fault.badModeValue)) = some (false, true) := by decide
/-- V18, VE12. -/
theorem test_set_cs_selects :
    (nextOf (step (pending 0x06FFFFFE))).map (fun t => (t.csN, t.sclk, t.mosi)) = some (false, false, false) := by decide
/-- R97: without chip-select the same word is dropped. -/
theorem test_set_cs_without_the_pin :
    (nextOf (step { pending 0x06000000 with cfg := { Params.reference with hasCs := false } })).map
      (fun t => (t.csN, t.cmdValid, t.decState)) = some (true, false, .idle) := by decide
/-- V5, slot 0: `w = 0x80` in mode (1,0) puts 5 on the wire. -/
theorem test_transfer_now :
    (nextOf (step { pending 0x04000080 with cpol := true })).map (fun t => (t.gpo, t.spiSlot, t.decState, t.racc)) =
      some (5, 1, .xfer, 0) := by decide
/-- V2, slot 0: `w = 0x4A` in mode (0,1) puts 4 on the wire. -/
theorem test_transfer_now_phase_one :
    (nextOf (step { pending 0x0400004A with cpha := true })).map (fun t => (t.gpo, t.spiClk)) = some (4, 0) := by decide
/-- V1, slot 4: sample of bit 6. -/
theorem test_transfer_samples :
    (nextOf (step (waiting false false 4))).map (fun t => (t.gpo, t.racc, t.spiSlot, t.spiClk)) =
      some (5, 0x01, 5, 4) := by decide
/-- V1: the return at instant 18, with `0x4A` read. -/
theorem test_transfer_returns :
    (nextOf (step (waiting false false 18))).map (fun t => (t.racc, t.sclk, t.decState, t.spiClk)) =
      some (0x4A, false, .publish, 18) := by decide
/-- VT1. -/
theorem test_now :
    (nextOf (exec (.now .pwm) { State.reset with ticks := 137 })).map (fun t => (t.pwmClk, t.spiClk)) =
      some (137, 0) := by decide
/-- VT5: a deadline already passed is recorded exactly. -/
theorem test_delay_until_late :
    (nextOf (exec (.delayUntil .spi 5) { State.reset with spiClk := 10, ticks := 40 })).map (fun t => t.spiClk) =
      some 15 := by decide
/-- VT4. -/
theorem test_delay_until_zero :
    (nextOf (exec (.delayUntil .pwm 0) State.reset)).map (fun t => t.fault.zeroDelay) = some true := by decide
/-- VP11, first row. -/
theorem test_pwm_snapshot_clamps :
    (nextOf (exec .pwmCycle { State.reset with period := 10, periodPrev := 10, highTime := 15, highPrev := 15 })).map
      (fun t => (t.snapP, t.snapH, t.pwmPhase)) = some (10, 10, .start) := by decide
/-- VP11, fourth row: the fall at 9. -/
theorem test_pwm_fall :
    (nextOf (exec .pwmCycle (falling 9))).map (fun t => (t.pwmOut, t.cct, t.pwmClk, t.pwmPhase)) =
      some (false, 5, 9, .snap) := by decide
/-- VD2. -/
theorem test_fetch :
    (nextOf (exec .fetch (pending 0x01000008))).map (fun t => (t.decOp, t.decPayload, t.cmdValid, t.period)) =
      some (0x01, 8, false, 2) := by decide
/-- VD6. -/
theorem test_publish :
    (nextOf (exec .publish { State.reset with decState := .publish, racc := 0x55, respByte := 0xFF })).map
      (fun t => (t.respByte, t.respValid, t.decState)) = some (0x55, true, .idle) := by decide
theorem test_publish_waits :
    (nextOf (exec .publish { State.reset with decState := .publish, racc := 0x55, respByte := 0xFF, respValid := true })).map
      (fun t => (t.respByte, t.decState)) = some (0xFF, .publish) := by decide

/-! ## The HOST and the stops -/

/-- VD4. -/
theorem test_full_mailbox_drops :
    (nextOf (step { acting (.write 0 4 0x01000009) with cmdWord := 0x02000003, cmdValid := true })).map
      (fun t => (t.cmdWord, t.cmdValid)) = some (0x02000003, true) := by decide
/-- VD5. -/
theorem test_read_of_resp_consumes :
    (nextOf (step { acting (.read 8 4) with respByte := 0x4A, respValid := true })).map
      (fun t => (t.hostLog, t.respValid, t.respByte)) = some ([(0, 0x4A)], false, 0x4A) := by decide
/-- VD9. -/
theorem test_other_accesses_are_refused :
    refusalOf (step (acting (.write 0 1 0))) = some (.hostAccessNotAWord 0 1) ∧
      refusalOf (step (acting (.read 2 4))) = some (.hostAccessNotAWord 2 4) ∧
      refusalOf (step (acting (.read 16 4))) = some (.hostAccessOutside 16) := by decide
/-- VP9, VF3: the snapshot that sees a period of 0 marks it, and the machine ends there. -/
theorem test_zero_period_ends_the_run :
    (nextOf (step { State.reset with period := 0, periodPrev := 0 })).map (fun t => faultOf (step t)) =
      some (some (.undefinedBehaviour { badModeValue := false, pwmZeroPeriod := true, zeroDelay := false })) := by decide
/-- VT6: TB's step. -/
theorem test_tick : (nextOf (step resting)).map (fun t => t.ticks) = some 2 := by decide
/-- R248 with the reference width: a transfer whose first deadline would be `2^32`. -/
theorem test_wrap_is_refused :
    refusalOf (step { pending 0x04000000 with ticks := 4294967295, pwmClk := 4294967295 }) = some (.tickRange 32) := by decide
/-- R231. -/
theorem test_first_step_is_the_snapshot :
    (nextOf (step State.reset)).map (fun t => (t.snapP, t.snapH, t.pwmPhase, t.ticks)) = some (2, 0, .start, 0) := by decide

/-! ## Witnesses: for each statement with hypotheses, values that meet them together -/

theorem witness_DecodeAndEncodeAgree :
    (encode (.setCs true) = some 0x06000001 ∧ (∀ v, Instr.setCs true = .setCs v → true = true)) ∧
      decode true 0x04ABCD4A = .command (.transferNow 0x4A) := ⟨⟨by decide, fun _ _ => rfl⟩, by decide⟩

theorem witness_InternalOperationsHaveNoWord :
    (∃ c, Instr.now .spi = .now c) ∧ (∃ c inc, Instr.delayUntil .pwm 1 = .delayUntil c inc) ∧
      (∃ b, Instr.transfer 0 = .transfer b) := ⟨⟨_, rfl⟩, ⟨_, _, rfl⟩, ⟨_, rfl⟩⟩

theorem witness_StepRunsTheFetchedCommand :
    let s := pending 0x0400004A
    s.hostReady = false ∧ s.decState = .idle ∧ s.cmdValid = true ∧ s.fault.badModeValue = false ∧
      s.fault.zeroDelay = false ∧ decode s.cfg.hasCs s.cmdWord = .command (.transferNow 0x4A) := by decide

/-- Opcodes 0, 7 and 255, and 6 without chip-select. -/
theorem witness_ReservedCommandIsDropped :
    let ok (s : State) : Bool :=
      !s.hostReady && decide (s.decState = .idle) && s.cmdValid && !s.fault.badModeValue && !s.fault.zeroDelay &&
        s.ticksFit
    ok (pending 0x00000000) = true ∧ ((pending 0x00000000).cmdWord.extractLsb' 24 8).toNat = 0 ∧
    ok (pending 0x07000000) = true ∧ 7 ≤ ((pending 0x07000000).cmdWord.extractLsb' 24 8).toNat ∧
    ok (pending 0xFF123456) = true ∧ 7 ≤ ((pending 0xFF123456).cmdWord.extractLsb' 24 8).toNat ∧
    ok { pending 0x06000001 with cfg := { Params.reference with hasCs := false } } = true ∧
      ((pending 0x06000001).cmdWord.extractLsb' 24 8).toNat = 6 := by decide

theorem witness_PlacedWordRunsNext :
    decode State.reset.cfg.hasCs (BitVec.ofNat 32 0x01000008) = .command (.setPeriod 8) ∧ 0x01000008 < 2 ^ 32 := by decide

theorem witness_AgentsTakeTurnsInOrder :
    ((acting .take).hostReady = true ∧ (acting .take).fault.any = false) ∧
    ((pending 0).hostReady = false ∧ (pending 0).decReady = true) ∧
    (State.reset.hostReady = false ∧ State.reset.decReady = false ∧ State.reset.pwmReady = true) ∧
    (resting.quiet = true ∧ resting.fault.any = false) := by decide

theorem witness_WhenAnAgentHasAStep :
    (waiting false false 1).fault.any = false ∧ (waiting false false 1).decReady = true ∧
      (falling 9).pwmReady = true ∧ (falling 8).pwmReady = false := by decide

/-- Near the end of a 32-bit counter, at the snapshot after a fall: the new deadline leaves the counter.  The same
snapshot one tick earlier stands. -/
theorem witness_WrapOfTheCounterIsRefused :
    let s (now : Nat) : State := { State.reset with ticks := now, pwmClk := now, cct := 6 }
    (s (2 ^ 32 - 6)).ticksFit = true ∧
    (nextOf (agentStep (s (2 ^ 32 - 6)))).map (fun t => (t.cfg.tickW, decide (2 ^ 32 ≤ t.pwmDeadline))) =
      some (some 32, true) ∧
    (nextOf (agentStep (s (2 ^ 32 - 7)))).map (fun t => (t.cfg.tickW, t.ticksFit)) = some (some 32, true) ∧
    (nextOf (step (s (2 ^ 32 - 7)))).isSome = true := by decide

theorem witness_ModeCommandsWriteTheirRegister : (0 : Payload).toNat ≤ 1 ∧ (1 : Payload).toNat ≤ 1 := by decide

theorem witness_BadModeValueIsMarked : 1 < (2 : Payload).toNat ∧ 1 < (0xFFFFFF : Payload).toNat := by decide

theorem witness_SetCsDrivesChipSelect :
    State.reset.cfg.hasCs = true ∧ (State.resetWith { Params.reference with hasCs := false }).cfg.hasCs = false := by decide

theorem witness_TransferStartsWithSlotZero : State.reset.decState ≠ .xfer := by decide

/-- The first and the last slot of each kind in both phases. -/
theorem witness_SlotsActAsTheTableSays :
    let due (s : State) (a : Bool) (k : Nat) : Bool :=
      decide (s.decState = .xfer) && decide (1 ≤ s.cfg.halfTicks) &&
        decide (s.spiClk + s.cfg.halfTicks ≤ s.ticks) && decide (s.cpha = a) && decide (s.spiSlot.toNat = k)
    let ok (a : Bool) (k : Nat) : Bool := due (waiting true a k) a k
    (ok false (1 + 2 * 0) && ok false (1 + 2 * 7) && ok false (2 + 2 * 0) && ok false (2 + 2 * 7) && ok false 17 &&
      ok false 18) = true ∧
    (due { waiting true true 1 with spiSlot := 0 } true (2 * 0) && ok true (2 * 7) && ok true (2 * 0 + 1) &&
      ok true (2 * 7 + 1) && ok true 16) = true := by decide

theorem witness_TransferWaitsForItsDeadline :
    let s := { waiting false true 3 with ticks := 2 }
    s.decState = .xfer ∧ s.ticks < s.spiClk + s.cfg.halfTicks ∧ 1 ≤ s.cfg.halfTicks := by decide

theorem witness_SampleSeesThePresentLevel :
    (waiting false false 2).slave = .echo ∧
      (∃ levels, ({ State.reset with slave := .table [(0, true)] } : State).slave = .table levels ∧
        levels.lookup 0 = some true) := ⟨rfl, _, rfl, rfl⟩

theorem witness_TransferTimingIgnoresTheData :
    let s := waiting false false 4
    let t := { waiting true false 4 with wbyte := 0xFF, slave := .table [] }
    s.decState = .xfer ∧ t.decState = .xfer ∧ s.ticks = t.ticks ∧ s.spiClk = t.spiClk ∧ s.spiSlot = t.spiSlot ∧
      s.cpha = t.cpha ∧ s.cfg = t.cfg ∧ s.fault = t.fault := by decide

theorem witness_DelayUntilCountsFromTheClockState :
    let s := { State.reset with ticks := 125, spiClk := 100, pwmClk := 100 }
    (1 ≤ 25 ∧ s.spiClk + 25 ≤ s.ticks ∧ s.pwmClk + 25 ≤ s.ticks) ∧ s.ticks < s.spiClk + 26 ∧
      s.ticks < s.pwmClk + 26 := by decide

theorem witness_PublishWaitsForAFreeRegister :
    State.reset.respValid = false ∧ ({ State.reset with respValid := true } : State).respValid = true := by decide

theorem witness_UnreadResponseHoldsTheDecoder :
    let s := { resting with decState := .publish, respValid := true }
    (s.decState = .publish ∧ s.respValid = true ∧ s.hostReady = false) ∧ (nextOf (step s)).isSome = true := by decide

theorem witness_SnapshotReadsAndClampsThePair :
    State.reset.pwmPhase = .snap ∧ 1 ≤ State.reset.period.toNat ∧
      ({ State.reset with period := 0, periodPrev := 0 } : State).period.toNat = 0 := by decide

theorem witness_SnapshotWithoutARaceIsThePresentPair :
    State.reset.pwmPhase = .snap ∧ State.reset.periodPrev = State.reset.period ∧
      State.reset.highPrev = State.reset.highTime ∧ 1 ≤ State.reset.period.toNat := by decide

/-- The always-on, always-off and general cases, at both ends of the general one, and the wait of 0 of the first
cycle. -/
theorem witness_CycleStartActsByCase :
    let due (s : State) : Bool :=
      decide (s.pwmPhase = .start) &&
        (decide (s.cct.toNat = 0) || decide (s.pwmClk + s.cct.toNat * 2 ^ s.cfg.pwmShift ≤ s.ticks))
    (due (starting 8 8 6) = true ∧ (starting 8 8 6).snapP.toNat ≤ (starting 8 8 6).snapH.toNat) ∧
    (due (starting 2 0 0) = true ∧ (starting 2 0 0).snapH.toNat = 0 ∧ 1 ≤ (starting 2 0 0).snapP.toNat) ∧
    (due (starting 10 1 3) = true ∧ 1 ≤ (starting 10 1 3).snapH.toNat ∧
      (starting 10 1 3).snapH.toNat < (starting 10 1 3).snapP.toNat) ∧
    (due (starting 10 9 3) = true ∧ (starting 10 9 3).snapH.toNat < (starting 10 9 3).snapP.toNat) := by decide

theorem witness_CycleFallOwesTheRest :
    ((falling 9).pwmPhase = .fall ∧ 1 ≤ (falling 9).snapH.toNat) ∧
      (falling 9).pwmClk + (falling 9).snapH.toNat * 2 ^ (falling 9).cfg.pwmShift ≤ (falling 9).ticks ∧
      (falling 8).ticks < (falling 8).pwmClk + (falling 8).snapH.toNat * 2 ^ (falling 8).cfg.pwmShift := by decide

theorem witness_CycleStartWaitsTheOwedTime :
    resting.pwmPhase = .start ∧ resting.ticks < resting.pwmClk + resting.cct.toNat * 2 ^ resting.cfg.pwmShift ∧
      1 ≤ resting.cct.toNat := by decide

/-- Both clauses: the first pin action of an always-on, an always-off and a general cycle at the end of its owed wait,
and a fall. -/
theorem witness_CycleStartsDoNotDrift :
    let leaves (s : State) : Bool :=
      !s.resetComes && decide (s.pwmPhase = .start) && ((nextOf (step s)).map fun t => decide (t.pwmPhase ≠ .start)) == some true
    ((starting 8 8 6).Timely ∧ leaves (starting 8 8 6) = true) ∧
    ((starting 2 0 2).Timely ∧ leaves (starting 2 0 2) = true) ∧
    ((starting 10 5 5).Timely ∧ leaves (starting 10 5 5) = true) ∧
    ((falling 9).Timely ∧ (falling 9).resetComes = false ∧ (falling 9).pwmPhase ≠ .start ∧
      (nextOf (step (falling 9))).isSome = true) :=
  ⟨⟨⟨by decide, by decide, trivial, by decide, by decide, by decide, by decide⟩, by decide⟩,
    ⟨⟨by decide, by decide, trivial, by decide, by decide, by decide, by decide⟩, by decide⟩,
    ⟨⟨by decide, by decide, trivial, by decide, by decide, by decide, by decide⟩, by decide⟩,
    ⟨by decide, by decide, trivial, by decide, by decide, by decide, by decide⟩, by decide, by decide, by decide⟩

/-- The fall of a general cycle; with the witness above, both ends of its high part. -/
theorem witness_OutputIsHighForTheHighTime :
    let s := falling 9
    s.Timely ∧ s.resetComes = false ∧ (nextOf (step s)).isSome = true :=
  ⟨⟨by decide, by decide, trivial, by decide, by decide, by decide, by decide⟩, by decide, by decide⟩

/-- DEC in the middle of a transfer, or idle with a full mailbox: the same to PWM. -/
theorem witness_PwmIsNotHeldUpByTheDecoder :
    let s := { waiting false false 4 with misoDraw := 2 }
    let t := { pending 0xFF000000 with ticks := 4, pwmClk := 4 }
    s.samePwm t ∧ (nextOf (exec .pwmCycle s)).isSome = true ∧ (nextOf (exec .pwmCycle t)).isSome = true :=
  ⟨by unfold State.samePwm; decide, by decide, by decide⟩

theorem witness_DecoderWritesOnlyItsOwn :
    (nextOf (decStep (pending 0x01000008))).isSome = true ∧ (nextOf (decStep (pending 0x02000008))).isSome = true := by decide

theorem witness_PwmWritesOnlyItsOwn : (nextOf (exec .pwmCycle State.reset)).isSome = true := by decide

theorem witness_HostReachesOnlyTheMailbox :
    let s := acting (.write 0 4 0x01000008)
    (nextOf (hostStep s)).isSome = true ∧ (∀ at' slave rest, s.hostScript ≠ (at', .reset slave) :: rest) :=
  ⟨by decide, by intro _ _ _ h; cases h⟩

theorem witness_NoCommandIsFetchedDuringATransfer :
    let s := { waiting false false 4 with cmdWord := 0x02000003, cmdValid := true }
    s.decState ≠ .idle ∧ s.hostReady = false ∧ (nextOf (step s)).isSome = true := by decide

theorem witness_RegisterReads :
    ({ State.reset with respValid := true } : State).respValid = true ∧ State.reset.respValid = false := by decide

theorem witness_CommandWrite : State.reset.cmdValid = false ∧ (pending 0).cmdValid = true := by decide

/-- One HOST access to each of the four registers, ready to be made. -/
theorem witness_HostAccesses :
    (∀ addr, (acting (.read addr 4)).hostScript = (0, .read addr 4) :: [] ∧ (acting (.read addr 4)).hostReady = true ∧
      (acting (.read addr 4)).fault.any = false ∧ (acting (.read addr 4)).ticksFit = true) ∧
    (∀ addr v, (acting (.write addr 4 v)).hostScript = (0, .write addr 4 v) :: [] ∧
      (acting (.write addr 4 v)).hostReady = true ∧ (acting (.write addr 4 v)).fault.any = false ∧
      (acting (.write addr 4 v)).ticksFit = true) ∧
    ((acting (.write 0 4 0)).cmdValid = false ∧ ({ acting (.write 0 4 0) with cmdValid := true } : State).cmdValid = true) :=
  ⟨fun _ => ⟨rfl, rfl, rfl, rfl⟩, fun _ _ => ⟨rfl, rfl, rfl, rfl⟩, rfl, rfl⟩

/-- Just below the window, just above it, a byte and a half-word in it, and a word one off. -/
theorem witness_OtherHostAccessesAreRefused :
    let s (a : HostAction) : State :=
      { State.reset with cfg := { Params.reference with hostBase := 0x100 }, hostScript := [(0, a)] }
    (∀ a, (s a).hostReady = true ∧ (s a).fault.any = false) ∧
      (0xFF < 0x100 ∧ 0x100 + 16 ≤ 0x110) ∧ (0x100 ≤ 0x10F ∧ 0x10F < 0x100 + 16 ∧ (0x10F - 0x100) % 4 ≠ 0) ∧
      (0x100 ≤ 0x100 ∧ 0x100 < 0x100 + 16 ∧ (1 : Nat) ≠ 4) := ⟨fun _ => ⟨rfl, rfl⟩, by decide⟩

theorem witness_PostAndTakePollFirst :
    ((acting (.post 0x06000000)).hostReady = true ∧ (acting (.post 0x06000000)).fault.any = false ∧
      (acting (.post 0x06000000)).ticksFit = true ∧ (acting (.post 0x06000000)).hostPolled = false ∧
      (acting (.post 0x06000000)).cmdValid = false) ∧
    (({ acting (.post 0) with hostPolled := true } : State).hostReady = true ∧
      ({ acting .take with hostPolled := true } : State).hostReady = true ∧
      (acting .take).hostScript = [(0, .take)] ∧ (acting .take).ticksFit = true) := by decide

/-- A settle delay of 3 ticks at instant 1, before a `POST` that might otherwise come at once. -/
theorem witness_WaitHoldsTheHostBack :
    let s := { resting with hostScript := [(0, .wait 3), (0, .post 0x0400004A)] }
    s.hostReady = true ∧ s.fault.any = false ∧ s.ticksFit = true ∧
      (nextOf (step s)).map (fun t => (t.hostScript, t.hostReady, t.ticks)) =
        some ([(4, .post 0x0400004A)], false, 1) := by decide

/-- Between the poll of a `POST` and its write, at the next instant. -/
theorem witness_EveryStepKeepsThePoll :
    let s := { resting with hostScript := [(0, .post 0x06000000)], hostPolled := true, hostDone := true }
    s.pollHolds ∧ (nextOf (step s)).isSome = true := ⟨fun _ => rfl, by decide⟩

/-- In the middle of a transfer, with an unread response and a full mailbox. -/
theorem witness_ResetAtAnyInstant :
    let s := { waiting true true 3 with respValid := true, cmdValid := true, hostScript := [(0, .reset .echo)] }
    s.hostScript = (0, .reset .echo) :: [] ∧ s.hostReady = true ∧ s.fault.any = false := by decide

/-- `InstantZeroAfterReset` and `ResetIsTimely`, at the smallest legal width. -/
theorem witness_Params :
    Params.reference.wf = true ∧
      ({ tickW := some 24, halfTicks := 1, pwmShift := 0, hasCs := false, hostBase := 0 } : Params).wf = true ∧
      ({ tickW := none, halfTicks := 3, pwmShift := 5, hasCs := true, hostBase := 8 } : Params).wf = true := by decide

theorem waiting_timely : (waiting false false 4).Timely :=
  ⟨by decide, by decide, ⟨by decide, by decide, by decide, by decide⟩, by decide, .inr (by decide)⟩

theorem witness_EveryStepKeepsDeadlines :
    (waiting false false 4).Timely ∧ (nextOf (step (waiting false false 4))).isSome = true :=
  ⟨waiting_timely, by decide⟩

theorem witness_EveryStepKeepsTheWire :
    (waiting false false 4).Timely ∧ (waiting false false 4).onTheWire ∧
      (nextOf (step (waiting false false 4))).isSome = true :=
  ⟨waiting_timely, ⟨by decide, by decide, by decide, by decide⟩, by decide⟩

theorem witness_TransferReadsTheSlavesByteOnTime :
    (waiting false false 4).Timely ∧ (waiting false false 4).transferring 0 0x4A 0x4A ∧
      (waiting false false 4).resetComes = false ∧ (nextOf (step (waiting false false 4))).isSome = true :=
  ⟨waiting_timely,
    ⟨rfl, rfl, rfl, by decide, by decide, by decide, by decide, by decide, by decide, by decide, by decide⟩,
    by decide, by decide⟩

/-- V6: a SLAVE whose table sends `0xC3` to a transfer in phase 1, and a wire. -/
theorem witness_TransferNowBeginsATransfer :
    (∀ j, j < 8 →
      [(1, true), (3, true), (5, false), (7, false), (9, false), (11, false), (13, true), (15, true)].lookup
        (0 + (2 * j + 1) * 1) = some ((0xC3 : Byte).getLsbD (7 - j))) ∧
    ({ State.reset with slave := .echo } : State).slave = .echo := by decide

theorem witness_TransferReturnsInTheEnd :
    let s := { waiting false false 4 with cfg := { Params.reference with tickW := none } }
    s.Timely ∧ s.transferring 0 0x4A 0x4A ∧ s.hostScript = [] ∧ s.cfg.tickW = none ∧ s.fault.any = false ∧
      1 ≤ s.period.toNat ∧ 1 ≤ s.periodPrev.toNat :=
  ⟨⟨by decide, by decide, ⟨by decide, by decide, by decide, by decide⟩, by decide, .inr (by decide)⟩,
    ⟨rfl, rfl, rfl, by decide, by decide, by decide, by decide, by decide, by decide, by decide, by decide⟩,
    rfl, rfl, rfl, by decide, by decide⟩

/-- Also `FaultNamesStay` and `ParametersAreFixed`: a mark is there, and a step is taken. -/
theorem witness_TicksMoveOneByOne :
    (resting.resetComes = false ∧ (nextOf (step resting)).isSome = true) ∧
      (let s := { State.reset with fault := { FaultMarks.empty with badModeValue := true } }
       s.resetComes = false ∧ s.fault.badModeValue = true ∧ (nextOf (step s)).isSome = true) := by decide

theorem witness_MarkedStateStops :
    let s := { resting with fault := { FaultMarks.empty with pwmZeroPeriod := true } }
    s.fault.any = true ∧ s.decReady = false ∧ s.pwmReady = false := by decide

end Sys2Proof.Tests
end

section
/-! PROOF. The parameters of 00_scope.md rule R7: each agent's step keeps `cfg`, so every step does. -/

namespace Sys2Proof.Machine

@[simp] theorem resetNow_cfg (s : State) (slave : Slave) (rest : List (Nat × HostAction)) :
    (s.resetNow slave rest).cfg = s.cfg := rfl

@[simp] theorem transferStart_cfg (w : Byte) (s : State) : (transferStart w s).cfg = s.cfg := by
  rw [transferStart_eq]

@[simp] theorem transferResume_cfg (s : State) : (transferResume s).cfg = s.cfg := by
  rw [transferResume_frame]

/-- The reset builds the block again with the parameters it had (R230); any other HOST action touches the mailbox and
the HOST's own records alone. -/
theorem hostStep_cfg {s t : State} (hr : s.hostReady = true) (h : hostStep s = .next t) : t.cfg = s.cfg := by
  rcases hostStep_cases h hr with ⟨_, slave, rest, -, rfl⟩ | hn
  · exact resetNow_cfg s slave rest
  · rw [(hostStep_frame h hr hn).1]

theorem decStep_cfg {s t : State} (h : decStep s = .next t) : t.cfg = s.cfg := by
  rcases decStep_cases h with ⟨-, hc⟩ | ⟨-, rfl⟩ | ⟨-, -, rfl⟩ | ⟨-, -, rfl⟩
  · rcases hc with ⟨_, -, rfl⟩ | ⟨_, -, rfl⟩ | ⟨_, _, -, rfl⟩ | ⟨_, _, -, rfl⟩ | ⟨_, -, rfl⟩ | rfl | ⟨_, -, rfl⟩ | rfl
      <;> simp
  · exact transferResume_cfg s
  · rfl
  · rfl

theorem pwmStep_cfg {s t : State} (h : exec .pwmCycle s = .next t) : t.cfg = s.cfg := by
  rw [pwmStep_frame h]

/-- Settles O59, by whose step it is: HOST, DEC, PWM or TB. -/
theorem parametersAreFixed : Obligations.ParametersAreFixed := by
  intro s t h
  rcases step_cases h with ⟨hr, -, hs⟩ | ⟨-, -, hs⟩ | ⟨-, -, -, hs⟩ | ⟨-, -, -, -, rfl⟩
  · exact hostStep_cfg hr hs
  · exact decStep_cfg hs
  · exact pwmStep_cfg hs
  · exact tick_cfg s

end Sys2Proof.Machine
end

section
/-! PROOF. 10_state.md rules R20, R39, R46, R52 and R53: what each agent's step may write, what it does to the fault
set, and the values after reset. -/

namespace Sys2Proof.Machine

/-! ## The fault set -/

/-- A wait adds at most the mark of R123, when what follows the wait adds none. -/
theorem delayUntil_fault {k : State → State} (hk : ∀ u, (k u).fault = u.fault) (c : ClockReg) (inc : Nat) (s : State) :
    (delayUntil c inc k s).fault = s.fault ∨ (delayUntil c inc k s).fault = s.fault.add .zeroDelay := by
  unfold delayUntil
  split
  · exact .inr rfl
  · left
    split
    · rw [hk]
      cases c <;> rfl
    · rfl

theorem slotOrReturn_fault (s : State) : (slotOrReturn s).fault = s.fault := by
  unfold slotOrReturn
  split
  · rfl
  · unfold slotStep
    rw [slotAction_frame]

theorem pwmAct_fault (s : State) : (pwmAct s).fault = s.fault := by
  rcases pwmAct_cases s with ⟨-, e⟩ | ⟨-, -, e⟩ | ⟨-, -, e⟩ <;> rw [e]

theorem transferResume_fault (s : State) :
    (transferResume s).fault = s.fault ∨ (transferResume s).fault = s.fault.add .zeroDelay :=
  delayUntil_fault slotOrReturn_fault ..

/-- DEC adds at most a name of its own (R98, R123). -/
theorem decStep_fault {s t : State} (h : decStep s = .next t) :
    t.fault = s.fault ∨ t.fault = s.fault.add .badModeValue ∨ t.fault = s.fault.add .zeroDelay := by
  rcases decStep_cases h with ⟨-, hc⟩ | ⟨-, rfl⟩ | ⟨-, -, rfl⟩ | ⟨-, -, rfl⟩
  · simp only [transferStart_eq] at hc
    rcases hc with ⟨_, -, rfl⟩ | ⟨_, -, rfl⟩ | ⟨_, _, -, rfl⟩ | ⟨_, _, -, rfl⟩ | ⟨_, -, rfl⟩ | rfl | ⟨_, -, rfl⟩ | rfl <;>
      simp
  · exact (transferResume_fault s).imp_right .inr
  · exact .inl rfl
  · exact .inl rfl

/-- PWM adds at most a name of its own (R164, R123). -/
theorem pwmStep_fault {s t : State} (h : exec .pwmCycle s = .next t) :
    t.fault = s.fault ∨ t.fault = s.fault.add .pwmZeroPeriod ∨ t.fault = s.fault.add .zeroDelay := by
  rcases pwmStep_cases h with ⟨-, rfl⟩ | ⟨-, rfl⟩ | ⟨-, rfl⟩
  · obtain ⟨_, _, -, -, -, -, ⟨-, e⟩ | ⟨-, e⟩⟩ := pwmSnap_cases s <;> rw [e]
    · exact .inr (.inl rfl)
    · exact .inl rfl
  · rcases pwmStart_cases s with ⟨-, e⟩ | ⟨-, -, e⟩ <;> rw [e]
    · exact .inl (pwmAct_fault _)
    · exact .inl rfl
  · exact (delayUntil_fault pwmLower_fault ..).imp_right .inr

theorem not_reset_of_resetComes {s : State} (hc : s.resetComes = false) (hr : s.hostReady = true)
    (hf : s.fault.any = false) : ∀ n slave rest, s.hostScript ≠ (n, .reset slave) :: rest := by
  intro n slave rest e
  simp [State.resetComes, hr, hf, e] at hc

/-- A step that is not the reset leaves the fault set or adds one name to it (R46). -/
theorem step_fault {s t : State} (hc : s.resetComes = false) (h : step s = .next t) :
    t.fault = s.fault ∨ ∃ n, t.fault = s.fault.add n := by
  rcases step_cases h with ⟨hr, hf, hs⟩ | ⟨-, -, hs⟩ | ⟨-, -, -, hs⟩ | ⟨-, -, -, -, rfl⟩
  · rw [(hostStep_frame hs hr (not_reset_of_resetComes hc hr hf)).1]
    exact .inl rfl
  · rcases decStep_fault hs with e | e | e
    exacts [.inl e, .inr ⟨_, e⟩, .inr ⟨_, e⟩]
  · rcases pwmStep_fault hs with e | e | e
    exacts [.inl e, .inr ⟨_, e⟩, .inr ⟨_, e⟩]
  · exact .inl rfl

/-- Settles O57: a step that is not the reset only adds a name. -/
theorem faultNamesStay : Obligations.FaultNamesStay := by
  intro s t hc h
  rcases step_fault hc h with e | ⟨n, e⟩
  · simp [e]
  · cases n <;> simp +contextual [e]

/-! ## What each agent writes -/

/-- What a step of DEC can touch (R52): its own registers, the SPI pins, the two flags, the fault set, and the shared pair
in the two commands that set it. -/
theorem decStep_frame {s t : State} (h : decStep s = .next t) :
    t = { s with
      cmdValid := t.cmdValid, respByte := t.respByte, respValid := t.respValid, decOp := t.decOp,
      decPayload := t.decPayload, decState := t.decState, spiSlot := t.spiSlot, cpol := t.cpol, cpha := t.cpha,
      wbyte := t.wbyte, racc := t.racc, spiClk := t.spiClk, sclk := t.sclk, mosi := t.mosi, csN := t.csN,
      period := t.period, highTime := t.highTime, fault := t.fault, misoDraw := t.misoDraw } ∧
    (t.period = s.period ∨
      (s.decState = .idle ∧ decode s.cfg.hasCs s.cmdWord = .command (.setPeriod t.period))) ∧
    (t.highTime = s.highTime ∨
      (s.decState = .idle ∧ decode s.cfg.hasCs s.cmdWord = .command (.setHighTime t.highTime))) ∧
    (t.cmdValid = true → s.cmdValid = true) ∧ (s.respValid = true → t.respValid = true) := by
  rcases decStep_cases h with ⟨hs, hc⟩ | ⟨-, rfl⟩ | ⟨-, -, rfl⟩ | ⟨-, -, rfl⟩
  · simp only [transferStart_eq] at hc
    rcases hc with ⟨_, hd, rfl⟩ | ⟨_, hd, rfl⟩ | ⟨_, _, -, rfl⟩ | ⟨_, _, -, rfl⟩ | ⟨_, -, rfl⟩ | rfl | ⟨_, -, rfl⟩ | rfl
    · exact ⟨rfl, .inr ⟨hs, hd⟩, .inl rfl, nofun, id⟩
    · exact ⟨rfl, .inl rfl, .inr ⟨hs, hd⟩, nofun, id⟩
    all_goals exact ⟨rfl, .inl rfl, .inl rfl, nofun, id⟩
  · rw [transferResume_frame]
    exact ⟨rfl, .inl rfl, .inl rfl, id, id⟩
  · exact ⟨rfl, .inl rfl, .inl rfl, id, fun _ => rfl⟩
  · exact ⟨rfl, .inl rfl, .inl rfl, id, id⟩

/-- Settles O34: DEC's frame, and the two commands that write the shared pair. -/
theorem decoderWritesOnlyItsOwn : Obligations.DecoderWritesOnlyItsOwn := by
  intro s t h
  obtain ⟨hframe, hperiod, hhigh, hcmd, hresp⟩ := decStep_frame h
  rw [hframe]
  simpa [State.sameWaveform, State.sameEnvironment] using ⟨hperiod, hhigh, hcmd, hresp⟩

/-- Settles O35: PWM's frame, and the names it can add to the fault set. -/
theorem pwmWritesOnlyItsOwn : Obligations.PwmWritesOnlyItsOwn := by
  intro s t h
  have hbad : t.fault.badModeValue = s.fault.badModeValue := by
    rcases pwmStep_fault h with e | e | e <;> simp [e]
  rw [pwmStep_frame h]
  simpa [State.sameDecoder, State.samePair, State.sameEnvironment] using hbad

/-- Settles O36: with an empty script the HOST changes nothing, and any action but the reset keeps to its frame. -/
theorem hostReachesOnlyTheMailbox : Obligations.HostReachesOnlyTheMailbox := by
  intro s t h hn
  unfold hostStep at h
  split at h
  · cases h
    simp [State.sameWaveform, State.samePair]
  · rename_i n a rest hs
    obtain ⟨hframe, hcmd, hresp⟩ := hostAct_frame h fun slave e => hn n slave rest (e ▸ hs)
    rw [hframe]
    simpa [State.sameWaveform, State.samePair] using ⟨hcmd, hresp⟩

/-- Settles O56: only TB's step moves the time, by one tick. -/
theorem ticksMoveOneByOne : Obligations.TicksMoveOneByOne := by
  intro s t hc h
  rcases step_cases h with ⟨hr, hf, hs⟩ | ⟨-, -, hs⟩ | ⟨-, -, -, hs⟩ | ⟨-, -, -, -, rfl⟩
  · rw [(hostStep_frame hs hr (not_reset_of_resetComes hc hr hf)).1]
    exact .inl rfl
  · rw [(decStep_frame hs).1]
    exact .inl rfl
  · rw [pwmStep_frame hs]
    exact .inl rfl
  · exact .inr (tick_ticks s)

/-! ## The packed word and the reset state -/

theorem packGpo_bits (clock data : Bool) :
    (packGpo clock data).getLsbD 2 = clock ∧ (packGpo clock data).getLsbD 1 = false ∧
      (packGpo clock data).getLsbD 0 = data := by
  revert clock data; decide

/-- Settles O19: the bits of the packing, at the two SPI outputs. -/
theorem packedWordIsClockZeroData : Obligations.PackedWordIsClockZeroData :=
  fun s => packGpo_bits s.sclk s.mosi

/-- Settles O47, by the literal of R53. -/
theorem resetValues : Obligations.ResetValues := by
  intro p
  simp [State.resetWith]

theorem resetWith_decTimely (p : Params) : (State.resetWith p).decTimely := trivial

theorem resetWith_pwmTimely (p : Params) : (State.resetWith p).pwmTimely := ⟨rfl, .inr le_rfl⟩

/-- Settles O50: no transfer is under way, and PWM stands before its first snapshot with nothing owed. -/
theorem resetIsTimely : Obligations.ResetIsTimely :=
  fun p hp => ⟨hp, empty_zeroDelay, resetWith_decTimely p, resetWith_pwmTimely p⟩

end Sys2Proof.Machine
end

section
/-! PROOF. 20_memory.md: the snapshot of the shared pair, the mailbox that DEC empties only when idle, the four host
registers, and what a polling HOST has seen. -/

namespace Sys2Proof.Machine

/-! ## The snapshot of the shared pair (R73, R74, R162 to R164) -/

theorem exec_pwmCycle_snap {s : State} (h : s.pwmPhase = .snap) : exec .pwmCycle s = .next (pwmSnap s) := by
  simp [exec, execPwmCycle, h]

/-- Settles O26: the two cases of the snapshot, by the period it reads. -/
theorem snapshotReadsAndClampsThePair : Obligations.SnapshotReadsAndClampsThePair := by
  intro s hs
  obtain ⟨p, h, hp, hh, -, -, hc⟩ := pwmSnap_cases s
  refine ⟨p, h, clampTo h p, hp.symm, hh.symm, clampTo_toNat h p, fun h1 => ?_, fun h0 => ?_⟩ <;>
    rw [exec_pwmCycle_snap hs]
  · obtain ⟨h0, -⟩ | ⟨-, e⟩ := hc
    · omega
    · rw [e]
  · obtain ⟨-, e⟩ | ⟨h1, -⟩ := hc
    · rw [e]
    · omega

/-- Settles O27: without an unseen write both reads of the snapshot are the present values. -/
theorem snapshotWithoutARaceIsThePresentPair : Obligations.SnapshotWithoutARaceIsThePresentPair := by
  intro s hs hperiod hhigh h1
  obtain ⟨p, h, -, -, hp, hh, hc⟩ := pwmSnap_cases s
  obtain rfl := hp hperiod
  obtain rfl := hh hhigh
  refine ⟨_, exec_pwmCycle_snap hs, ?_⟩
  obtain ⟨h0, -⟩ | ⟨-, e⟩ := hc
  · omega
  · rw [e]
    exact ⟨rfl, clampTo_toNat .., rfl⟩

/-! ## DEC and the mailbox -/

/-- DEC's turn (R129, R214). -/
theorem step_of_decReady {s : State} (hr : s.hostReady = false) (hd : s.decReady = true) :
    step s = withinTicks (decStep s) := by
  simp [step, agentStep, hr, hd]

/-- An idle DEC latches the pending word and runs the command it decodes to (R180, R181). -/
theorem decStep_of_command {s : State} {i : Instr} (hi : s.decState = .idle)
    (hd : decode s.cfg.hasCs s.cmdWord = .command i) : decStep s = exec i s.latchCommand := by
  have hf : decodeFields s.cfg.hasCs (opcodeOf s.cmdWord) (payloadOf s.cmdWord) = .command i := hd
  simp [decStep, hi, exec, execFetch, runLatched, hf]

/-- In the state a word is placed in, the HOST's access is used up. -/
theorem hostReady_postWord (s : State) (w : Word) : (s.postWord w).hostReady = false := by
  unfold State.hostReady
  split <;> simp

theorem decReady_postWord (s : State) (w : Word) : (s.postWord w).decReady = true :=
  decReady_iff.2 ⟨rfl, rfl, .inl ⟨rfl, rfl⟩⟩

/-- In the placed state it is DEC's turn, and DEC fetches the placed word. -/
theorem step_postWord {s : State} {v : Word} {i : Instr} (hd : decode s.cfg.hasCs v = .command i) :
    step (s.postWord v) = withinTicks (exec i (s.postWord v).latchCommand) := by
  rw [step_of_decReady (hostReady_postWord s v) (decReady_postWord s v),
    decStep_of_command (postWord_decState s v) hd]

/-- A word that fits the 32 bits is placed as it stands. -/
theorem withFetchWord_eq (s : State) {w : Nat} (hw : w < 2 ^ 32) :
    s.withFetchWord 32 w = s.postWord (BitVec.ofNat 32 w) := by
  rw [State.withFetchWord, Nat.mod_eq_of_lt hw]

/-- Settles O7: the step from the placed state. -/
theorem placedWordRunsNext : Obligations.PlacedWordRunsNext := by
  intro s w i hd hw
  rw [withFetchWord_eq s hw]
  exact step_postWord hd

/-- A step of DEC inside a transfer or a publish keeps the mailbox, the command under way, the mode, the byte written,
chip-select and the shared pair (R75, R183). -/
theorem decStep_busy_frame {s t : State} (hb : s.decState ≠ .idle) (h : decStep s = .next t) :
    t = { s with
      respByte := t.respByte, respValid := t.respValid, decState := t.decState, spiSlot := t.spiSlot,
      racc := t.racc, spiClk := t.spiClk, sclk := t.sclk, mosi := t.mosi, fault := t.fault, misoDraw := t.misoDraw } := by
  rcases decStep_cases h with ⟨hi, -⟩ | ⟨-, rfl⟩ | ⟨-, -, rfl⟩ | ⟨-, -, rfl⟩
  · exact absurd hi hb
  · rw [transferResume_frame]
  · rfl
  · rfl

/-- Settles O37, by whose step it is: a busy DEC, PWM and TB all leave these elements alone. -/
theorem noCommandIsFetchedDuringATransfer : Obligations.NoCommandIsFetchedDuringATransfer := by
  intro s t hb hr h
  rcases step_cases h with ⟨hr', -, -⟩ | ⟨-, -, hs⟩ | ⟨-, -, -, hs⟩ | ⟨-, -, -, -, rfl⟩
  · simp [hr] at hr'
  · rw [decStep_busy_frame hb hs]
    simp [State.samePair]
  · rw [pwmStep_frame hs]
    simp [State.samePair]
  · simp [State.samePair]

/-! ## The host registers (R62 to R67) -/

theorem hostValue_cmdReady (s : State) : s.hostValue .cmdReady = if s.cmdValid then 0 else 1 := by
  cases h : s.cmdValid <;> simp [State.hostValue, State.cmdReady, h]

theorem hostValue_respValid (s : State) : s.hostValue .respValid = if s.respValid then 1 else 0 := by
  cases h : s.respValid <;> simp [State.hostValue, h]

/-- A read of `RESP` with no unread response changes nothing (R65). -/
theorem consumeResponse_of_read {s : State} (h : s.respValid = false) : s.consumeResponse = s := by
  rw [State.consumeResponse, ← h]

theorem postCommand_empty {s : State} (h : s.cmdValid = false) (v : Word) :
    s.postCommand v = { s with cmdWord := v, cmdValid := true } := by
  simp [State.postCommand, h]

theorem postCommand_full {s : State} (h : s.cmdValid = true) (v : Word) : s.postCommand v = s := by
  simp [State.postCommand, h]

/-- Settles O38, register by register. -/
theorem registerReads : Obligations.RegisterReads :=
  fun s => ⟨⟨rfl, rfl⟩, ⟨hostValue_cmdReady s, rfl⟩, ⟨rfl, fun _ => rfl, consumeResponse_of_read⟩,
    ⟨hostValue_respValid s, rfl⟩⟩

/-- Settles O39, by whether the mailbox is full. -/
theorem commandWrite : Obligations.CommandWrite :=
  fun _ v => ⟨fun h => postCommand_empty h v, fun h => postCommand_full h v⟩

/-! ## The HOST's accesses as steps -/

section hostTurn
variable {s : State} {n : Nat} {rest : List (Nat × HostAction)}

/-- The HOST's turn (R214): the action at the head of its script. -/
theorem step_of_hostReady {a : HostAction} (hs : s.hostScript = (n, a) :: rest) (hr : s.hostReady = true)
    (hf : s.fault.any = false) : step s = withinTicks (hostAct a rest s) := by
  simp [step, agentStep, hr, hf, hostStep, hs]

/-- A host access moves neither the time nor a deadline. -/
theorem hostReads_hostNext_ticksFit (s : State) (r : HostReg) (rest : List (Nat × HostAction)) :
    ((s.hostReads r).hostNext rest).ticksFit = s.ticksFit := by
  cases r <;> rfl

theorem hostWrites_hostNext_ticksFit (s : State) (r : HostReg) (v : Word) (rest : List (Nat × HostAction)) :
    ((s.hostWrites r v).hostNext rest).ticksFit = s.ticksFit := by
  cases r with
  | cmd =>
    cases h : s.cmdValid
    · rw [State.hostWrites, State.afterHostWrite, postCommand_empty h]
      rfl
    · rw [State.hostWrites, State.afterHostWrite, postCommand_full h]
      rfl
  | cmdReady => rfl
  | resp => rfl
  | respValid => rfl

variable {addr size : Nat} {r : HostReg} {v : Word}

theorem step_read (hs : s.hostScript = (n, .read addr size) :: rest) (hr : s.hostReady = true)
    (hf : s.fault.any = false) (ht : s.ticksFit = true) (htgt : hostTarget s.cfg addr size = .ok r) :
    step s = .next ((s.hostReads r).hostNext rest) := by
  rw [step_of_hostReady hs hr hf]
  simp only [hostAct, htgt]
  exact withinTicks_of_fit (by rw [hostReads_hostNext_ticksFit, ht])

theorem step_write (hs : s.hostScript = (n, .write addr size v) :: rest) (hr : s.hostReady = true)
    (hf : s.fault.any = false) (ht : s.ticksFit = true) (htgt : hostTarget s.cfg addr size = .ok r) :
    step s = .next ((s.hostWrites r v).hostNext rest) := by
  rw [step_of_hostReady hs hr hf]
  simp only [hostAct, htgt]
  exact withinTicks_of_fit (by rw [hostWrites_hostNext_ticksFit, ht])

/-- An access that reaches no register stops the machine with that refusal (R67, R69). -/
theorem step_refused {e : Refusal} (hr : s.hostReady = true) (hf : s.fault.any = false)
    (hs : s.hostScript = (n, .read addr size) :: rest ∨ s.hostScript = (n, .write addr size v) :: rest)
    (htgt : hostTarget s.cfg addr size = .error e) : step s = .refused e := by
  rcases hs with hs | hs <;> rw [step_of_hostReady hs hr hf] <;> simp [hostAct, htgt, withinTicks]

end hostTurn

/-- Settles O40: each address reaches its register, which answers its value. -/
theorem hostReadsOfTheFourRegisters : Obligations.HostReadsOfTheFourRegisters := by
  rintro s n _ addr rest hs hr hf ht rfl
  refine ⟨?_, ?_, ?_, ?_⟩ <;> rintro rfl
  · exact step_read hs hr hf ht (hostTarget_cmd _)
  · rw [step_read hs hr hf ht (hostTarget_cmdReady _), ← hostValue_cmdReady]
    rfl
  · exact step_read hs hr hf ht (hostTarget_resp _)
  · rw [step_read hs hr hf ht (hostTarget_respValid _), ← hostValue_respValid]
    rfl

/-- Settles O41: each address reaches its register, and only a write of `CMD` has an effect. -/
theorem hostWritesOfTheFourRegisters : Obligations.HostWritesOfTheFourRegisters := by
  rintro s n _ addr v rest hs hr hf ht rfl
  refine ⟨?_, ?_, ?_⟩
  · rintro rfl hempty
    rw [step_write hs hr hf ht (hostTarget_cmd _), State.hostWrites, State.afterHostWrite, postCommand_empty hempty]
    rfl
  · rintro rfl hfull
    rw [step_write hs hr hf ht (hostTarget_cmd _), State.hostWrites, State.afterHostWrite, postCommand_full hfull]
    rfl
  · rintro (rfl | rfl | rfl)
    · exact step_write hs hr hf ht (hostTarget_cmdReady _)
    · exact step_write hs hr hf ht (hostTarget_resp _)
    · exact step_write hs hr hf ht (hostTarget_respValid _)

/-- Settles O42: such an access reaches no register. -/
theorem otherHostAccessesAreRefused : Obligations.OtherHostAccessesAreRefused :=
  fun _ _ _ _ _ _ hr hf hs =>
    ⟨fun hout => step_refused hr hf hs (hostTarget_outside hout),
      fun hlo hhi hbad => step_refused hr hf hs (hostTarget_notAWord hlo hhi hbad)⟩

/-! ## What a polling HOST has seen (R79, R103) -/

/-- A HOST that has seen nothing has nothing to lose. -/
theorem pollHolds_of_not_polled {s : State} (h : s.hostPolled = false) : s.pollHolds := by
  unfold State.pollHolds
  split <;> simp [h]

/-- A step of another agent, which neither fills the mailbox nor takes the response, keeps what the HOST has seen. -/
theorem pollHolds_mono {s t : State} (hscript : t.hostScript = s.hostScript) (hpolled : t.hostPolled = s.hostPolled)
    (hcmd : t.cmdValid = true → s.cmdValid = true) (hresp : s.respValid = true → t.respValid = true)
    (h : s.pollHolds) : t.pollHolds := by
  unfold State.pollHolds at h ⊢
  rw [hscript, hpolled]
  split at h
  · exact fun hp => Bool.eq_false_iff.2 fun ht => Bool.eq_false_iff.1 (h hp) (hcmd ht)
  · exact fun hp => hresp (h hp)
  · exact h

/-- `POST` goes on to its write only when `CMD_READY` has read 1 (R103). -/
theorem pollHolds_poll_post {s : State} {n : Nat} {w : Word} {rest : List (Nat × HostAction)}
    (hs : s.hostScript = (n, .post w) :: rest) : (s.hostPoll .cmdReady).pollHolds := by
  have hs' : (s.hostPoll .cmdReady).hostScript = (n, .post w) :: rest := hs
  unfold State.pollHolds
  rw [hs']
  show (s.hostValue .cmdReady == 1) = true → s.cmdValid = false
  rw [hostValue_cmdReady]
  cases s.cmdValid <;> simp

/-- `TAKE` goes on to its read only when `RESP_VALID` has read 1 (R103). -/
theorem pollHolds_poll_take {s : State} {n : Nat} {rest : List (Nat × HostAction)}
    (hs : s.hostScript = (n, .take) :: rest) : (s.hostPoll .respValid).pollHolds := by
  have hs' : (s.hostPoll .respValid).hostScript = (n, .take) :: rest := hs
  unfold State.pollHolds
  rw [hs']
  show (s.hostValue .respValid == 1) = true → s.respValid = true
  rw [hostValue_respValid]
  cases s.respValid <;> simp

/-- After a step of the HOST its script has moved on with nothing seen, or a poll has just read the flag. -/
theorem hostStep_pollHolds {s t : State} (hr : s.hostReady = true) (h : hostStep s = .next t) : t.pollHolds := by
  unfold hostStep at h
  split at h
  · rename_i hs
    simp [State.hostReady, hs] at hr
  · rename_i n a rest hs
    cases a <;> simp only [hostAct] at h
    case read addr size =>
      split at h <;> cases h
      exact pollHolds_of_not_polled rfl
    case write addr size v =>
      split at h <;> cases h
      exact pollHolds_of_not_polled rfl
    case post w =>
      split at h <;> cases h
      · exact pollHolds_of_not_polled rfl
      · exact pollHolds_poll_post hs
    case take =>
      split at h <;> cases h
      · exact pollHolds_of_not_polled rfl
      · exact pollHolds_poll_take hs
    case wait k =>
      cases h
      exact pollHolds_of_not_polled rfl
    case reset slave =>
      cases h
      exact pollHolds_of_not_polled rfl

theorem decStep_pollHolds {s t : State} (h : decStep s = .next t) : s.pollHolds → t.pollHolds := by
  obtain ⟨hframe, -, -, hcmd, hresp⟩ := decStep_frame h
  exact pollHolds_mono (by rw [hframe]) (by rw [hframe]) hcmd hresp

theorem pwmStep_pollHolds {s t : State} (h : exec .pwmCycle s = .next t) : s.pollHolds → t.pollHolds := by
  rw [pwmStep_frame h]
  exact pollHolds_mono rfl rfl id id

/-- Settles O44, by whose step it is: HOST, DEC, PWM or TB. -/
theorem everyStepKeepsThePoll : Obligations.EveryStepKeepsThePoll := by
  intro s t hp h
  rcases step_cases h with ⟨hr, -, hs⟩ | ⟨-, -, hs⟩ | ⟨-, -, -, hs⟩ | ⟨-, -, -, -, rfl⟩
  · exact hostStep_pollHolds hr hs
  · exact decStep_pollHolds hs hp
  · exact pwmStep_pollHolds hs hp
  · exact pollHolds_mono rfl rfl id id hp

end Sys2Proof.Machine
end

section
/-! PROOF. 30_encoding.md: the words of the commands, the reserved opcodes and what the machine makes of them, the mode
payload above 1, the HOST's `POST` and `TAKE`, and the words of the accelerometer access. -/

namespace Sys2Proof

/-! ## Commands and their words (R90, R91, R96, R101, R102) -/

/-- The bits of P8 are bits of the payload (R91). -/
theorem payloadByte_and_self (p : Payload) :
    (payloadByte p).zeroExtend 24 &&& p = (payloadByte p).zeroExtend 24 := by
  ext i hi
  simp +contextual [payloadByte, hi]

/-- The bit of `SET_CS` is a bit of the payload (R91). -/
theorem payloadBit_and_self (p : Payload) :
    (BitVec.ofBool (payloadBit p)).zeroExtend 24 &&& p = (BitVec.ofBool (payloadBit p)).zeroExtend 24 := by
  ext i hi
  cases i <;> simp [payloadBit]

/-- What decoding to a command says of the two fields: the opcode is the command's own, the command's own payload has no
bit the given one lacks, and `SET_CS` is there only with the pin. -/
theorem fields_of_command {hasCs : Bool} {op : Opcode} {p : Payload} {i : Instr}
    (h : decodeFields hasCs op p = .command i) :
    opcodeNumber i = some op ∧ payloadNumber i &&& p = payloadNumber i ∧ ∀ v, i = .setCs v → hasCs = true := by
  unfold decodeFields at h
  split at h
  case h_1 hop | h_2 hop | h_3 hop | h_5 hop =>
    cases h
    exact ⟨congrArg some (BitVec.eq_of_toNat_eq hop.symm), BitVec.and_self, nofun⟩
  case h_4 hop =>
    cases h
    exact ⟨congrArg some (BitVec.eq_of_toNat_eq hop.symm), payloadByte_and_self p, nofun⟩
  case h_6 hop =>
    split at h
    next hc =>
      cases h
      exact ⟨congrArg some (BitVec.eq_of_toNat_eq hop.symm), payloadBit_and_self p, fun _ _ => hc⟩
    next => cases h
  case h_7 => cases h

/-- The round trip of R102 for every instruction, from the one of each constructor. -/
theorem decode_of_encode (i : Instr) : Laws.EncodeRoundTrip.Statement i := by
  cases i with
  | setPeriod n => exact Laws.EncodeRoundTrip.setPeriod n
  | setHighTime n => exact Laws.EncodeRoundTrip.setHighTime n
  | setPolarity v => exact Laws.EncodeRoundTrip.setPolarity v
  | transferNow b => exact Laws.EncodeRoundTrip.transferNow b
  | setPhase v => exact Laws.EncodeRoundTrip.setPhase v
  | setCs v => exact Laws.EncodeRoundTrip.setCs v
  | now c => exact Laws.EncodeRoundTrip.now c
  | delayUntil c inc => exact Laws.EncodeRoundTrip.delayUntil c inc
  | transfer b => exact Laws.EncodeRoundTrip.transfer b
  | pwmCycle => exact Laws.EncodeRoundTrip.pwmCycle
  | fetch => exact Laws.EncodeRoundTrip.fetch
  | publish => exact Laws.EncodeRoundTrip.publish

theorem encode_of_opcodeNumber {i : Instr} {op : Opcode} (h : opcodeNumber i = some op) :
    encode i = some (joinWord op (payloadNumber i)) := by
  simp [encode, h]

theorem joinWord_and_joinWord (op : Opcode) (p q : Payload) :
    joinWord op p &&& joinWord op q = joinWord op (p &&& q) :=
  BitVec.and_append.trans (congrArg (joinWord · (p &&& q)) BitVec.and_self)

/-- A command's own word is within any word that decodes to the command. -/
theorem joinWord_and_of_command {hasCs : Bool} {w : Word} {i : Instr} (h : decode hasCs w = .command i) :
    joinWord (opcodeOf w) (payloadNumber i) &&& w = joinWord (opcodeOf w) (payloadNumber i) := by
  obtain ⟨-, hp, -⟩ := fields_of_command h
  calc joinWord (opcodeOf w) (payloadNumber i) &&& w
      = joinWord (opcodeOf w) (payloadNumber i) &&& joinWord (opcodeOf w) (payloadOf w) := by rw [joinWord_fields]
    _ = joinWord (opcodeOf w) (payloadNumber i) := by rw [joinWord_and_joinWord, hp]

/-- Settles O2: the round trip of each constructor, and for the converse the word of the decoded command, which has the
opcode of the given word and no payload bit outside it. -/
theorem decodeAndEncodeAgree : Obligations.DecodeAndEncodeAgree := by
  refine ⟨fun hasCs i w => decode_of_encode i hasCs w, fun hasCs i w h => ?_⟩
  obtain ⟨hop, -, hcs⟩ := fields_of_command h
  have henc := encode_of_opcodeNumber hop
  exact ⟨_, henc, decode_of_encode i hasCs _ henc hcs, opcodeOf_joinWord .., joinWord_and_of_command h⟩

/-- Settles O1: the written-out words, decoded. -/
theorem writtenWordsDecode : Obligations.WrittenWordsDecode := by
  unfold Obligations.WrittenWordsDecode
  decide

/-- Settles O4: an internal operation has no opcode, which a word and a decoded command both have. -/
theorem internalOperationsHaveNoWord : Obligations.InternalOperationsHaveNoWord := by
  intro hasCs w i hi
  have hnone : opcodeNumber i = none := by
    rcases hi with ⟨_, rfl⟩ | ⟨_, _, rfl⟩ | ⟨_, rfl⟩ | rfl | rfl | rfl <;> rfl
  refine ⟨by rw [encode, hnone, Option.map_none], fun h => ?_⟩
  obtain ⟨hop, -, -⟩ := fields_of_command h
  simp [hnone] at hop

/-! ## Reserved opcodes (R96, R97) -/

/-- An opcode is reserved exactly outside the map, and by its own number. -/
theorem decodeFields_reserved {hasCs : Bool} {op r : Opcode} {p : Payload} :
    decodeFields hasCs op p = .reserved r ↔
      r = op ∧ (op.toNat = 0 ∨ 7 ≤ op.toNat ∨ (op.toNat = 6 ∧ hasCs = false)) := by
  unfold decodeFields
  split
  case h_1 hop | h_2 hop | h_3 hop | h_4 hop | h_5 hop => simp [hop]
  case h_6 hop => cases hasCs <;> simp [hop, eq_comm]
  case h_7 h1 h2 h3 h4 h5 h6 =>
    simp only [imp_false] at h1 h2 h3 h4 h5 h6
    have hout : op.toNat = 0 ∨ 7 ≤ op.toNat ∨ (op.toNat = 6 ∧ hasCs = false) := by omega
    exact ⟨fun h => ⟨(Decoded.reserved.inj h).symm, hout⟩, fun h => congrArg _ h.1.symm⟩

/-- Settles O3, by the opcode map. -/
theorem reservedOpcodesAreTheOthers : Obligations.ReservedOpcodesAreTheOthers := by
  intro hasCs w
  constructor
  · simp [decode, decodeFields_reserved]
  · intro op h
    exact (decodeFields_reserved.1 h).1

namespace Machine

/-- An idle DEC latches a reserved command and does nothing with it (R97). -/
theorem decStep_of_reserved {s : State} {r : Opcode} (hi : s.decState = .idle)
    (hd : decode s.cfg.hasCs s.cmdWord = .reserved r) : decStep s = .next s.latchCommand.decIdle := by
  have hf : decodeFields s.cfg.hasCs (opcodeOf s.cmdWord) (payloadOf s.cmdWord) = .reserved r := hd
  simp [decStep, hi, exec, execFetch, runLatched, hf]

/-- Back at the head of its loop, an idle DEC is where it was. -/
theorem decIdle_of_idle {s : State} (hi : s.decState = .idle) : s.decIdle = s := by
  rw [State.decIdle, ← hi]

/-- The latch moves neither the time nor a deadline. -/
theorem latchCommand_ticksFit (s : State) : s.latchCommand.ticksFit = s.ticksFit := rfl

/-- Settles O6: DEC's turn, with a word that decodes to a reserved opcode. -/
theorem reservedCommandIsDropped : Obligations.ReservedCommandIsDropped := by
  intro s hr hi hv hbad hzero ht hop
  have hd : decode s.cfg.hasCs s.cmdWord = .reserved (opcodeOf s.cmdWord) := decodeFields_reserved.2 ⟨rfl, hop⟩
  calc step s
      = withinTicks (decStep s) := step_of_decReady hr (decReady_iff.2 ⟨hbad, hzero, .inl ⟨hi, hv⟩⟩)
    _ = withinTicks (.next s.latchCommand) := by
      rw [decStep_of_reserved hi hd, decIdle_of_idle (s := s.latchCommand) hi]
    _ = .next s.latchCommand := withinTicks_of_fit ((latchCommand_ticksFit s).trans ht)

/-! ## The mode payload (R98) -/

/-- Settles O13: a payload above 1 is no mode. -/
theorem badModeValueIsMarked : Obligations.BadModeValueIsMarked := by
  intro v s hv
  have hm : modeBit v = none := modeBit_none.2 hv
  constructor
  · simp only [exec, execSetPolarity, hm]
    rfl
  · simp only [exec, execSetPhase, hm]
    rfl

/-! ## `POST` and `TAKE` (R103) -/

/-- A poll records the flag it reads and keeps whether it was 1. -/
theorem hostPoll_cmdReady (s : State) :
    s.hostPoll .cmdReady = { s with
      hostLog := (s.ticks, if s.cmdValid then 0 else 1) :: s.hostLog, hostPolled := !s.cmdValid, hostDone := true } := by
  have hflag : ((if s.cmdValid then 0 else 1 : Word) == 1) = !s.cmdValid := by cases s.cmdValid <;> rfl
  rw [← hflag, ← hostValue_cmdReady]
  rfl

theorem hostPoll_respValid (s : State) :
    s.hostPoll .respValid = { s with
      hostLog := (s.ticks, if s.respValid then 1 else 0) :: s.hostLog, hostPolled := s.respValid, hostDone := true } := by
  have hflag : ((if s.respValid then 1 else 0 : Word) == 1) = s.respValid := by cases s.respValid <;> rfl
  rw [State.hostPoll, hostValue_respValid, hflag, ← hostValue_respValid]
  rfl

theorem hostPoll_ticksFit (s : State) (r : HostReg) : (s.hostPoll r).ticksFit = s.ticksFit := by
  cases r <;> rfl

/-- The HOST's turn, when its action is known and keeps the tick counts in range. -/
theorem step_of_hostAct {s t : State} {n : Nat} {a : HostAction} {rest : List (Nat × HostAction)}
    (hs : s.hostScript = (n, a) :: rest) (hr : s.hostReady = true) (hf : s.fault.any = false)
    (h : hostAct a rest s = .next t) (ht : t.ticksFit = true) : step s = .next t := by
  rw [step_of_hostReady hs hr hf, h]
  exact withinTicks_of_fit ht

/-- Settles O43: the two polls and the two accesses they allow. -/
theorem postAndTakePollFirst : Obligations.PostAndTakePollFirst := by
  intro s n w rest hr hf ht
  refine ⟨fun hs hp => ?_, fun hs hp hempty => ?_, fun hs hp => ?_, fun hs hp => ?_⟩
  · have hact : hostAct (.post w) rest s = .next (s.hostPoll .cmdReady) := by simp [hostAct, hp]
    rw [step_of_hostAct hs hr hf hact ((hostPoll_ticksFit ..).trans ht), hostPoll_cmdReady]
  · have hact : hostAct (.post w) rest s = .next ((s.hostWrites .cmd w).hostNext rest) := by simp [hostAct, hp]
    rw [step_of_hostAct hs hr hf hact ((hostWrites_hostNext_ticksFit ..).trans ht), State.hostWrites,
      State.afterHostWrite, postCommand_empty hempty]
    rfl
  · have hact : hostAct .take rest s = .next (s.hostPoll .respValid) := by simp [hostAct, hp]
    rw [step_of_hostAct hs hr hf hact ((hostPoll_ticksFit ..).trans ht), hostPoll_respValid]
  · have hact : hostAct .take rest s = .next ((s.hostReads .resp).hostNext rest) := by simp [hostAct, hp]
    exact step_of_hostAct hs hr hf hact ((hostReads_hostNext_ticksFit s .resp rest).trans ht)

/-! ## The words of the accelerometer access (R95, R201 to R203) -/

/-- The layout of R102: `(opcode << 24) | payload`. -/
theorem joinWord_eq_shift_or (op : Opcode) (p : Payload) :
    joinWord op p = (op.zeroExtend 32 <<< 24) ||| p.zeroExtend 32 := by
  rw [← BitVec.setWidth_eq (joinWord op p), joinWord]
  exact BitVec.setWidth_append_eq_shiftLeft_setWidth_or

/-- The word of `TRANSFER_NOW` (R96, R102). -/
theorem postOf_transferNow (b : Byte) :
    postOf (.transferNow b) = [.post ((0x04000000 : Word) ||| b.zeroExtend 32)] := by
  have hb : (b.zeroExtend 24).zeroExtend 32 = b.zeroExtend 32 := BitVec.setWidth_setWidth (by omega)
  show [HostAction.post (joinWord 0x04 (b.zeroExtend 24))] = _
  rw [joinWord_eq_shift_or, hb]
  rfl

/-- The words of `SET_CS` (R96, R102). -/
theorem postOf_setCs (v : Bool) : postOf (.setCs v) = [.post (if v then 0x06000001 else 0x06000000)] := by
  cases v <;> rfl

/-- The register access of R201 and R203, with the opcode byte of format A as it stands. -/
theorem accelAccess_expand (write : Bool) (r : BitVec 6) (v : Byte) (settleAfter settleBefore : Nat) :
    (accelAccess write r v settleAfter settleBefore).flatMap HostLine.expand =
      [.post 0x06000000, .wait settleAfter, .post ((0x04000000 : Word) ||| (accelOpcode write r).zeroExtend 32), .take,
       .post ((0x04000000 : Word) ||| v.zeroExtend 32), .take, .wait settleBefore, .post 0x06000001] := by
  simp [accelAccess, HostLine.expand, postOf_transferNow, postOf_setCs]

/-- Format A of R95: the access bit at bit 7, the address above bit 0. -/
theorem accelOpcode_word (write : Bool) (r : BitVec 6) :
    (accelOpcode write r).zeroExtend 32 =
      ((BitVec.ofBool write).zeroExtend 32 <<< 7) ||| (r.zeroExtend 32 <<< 1) := by
  calc (accelOpcode write r).zeroExtend 32
      = ((BitVec.ofBool write).zeroExtend 32 <<< 7) ||| (r.zeroExtend 32 <<< 1) ||| (0 : BitVec 1).zeroExtend 32 :=
        BitVec.setWidth_append_append_eq_shiftLeft_setWidth_or
    _ = ((BitVec.ofBool write).zeroExtend 32 <<< 7) ||| (r.zeroExtend 32 <<< 1) := BitVec.or_zero

/-- Settles O46: the expansion of the access, with the opcode byte of a write and of a read. -/
theorem accelerometerAccessIsTwoTransfers : Obligations.AccelerometerAccessIsTwoTransfers := by
  intro r v settleAfter settleBefore
  constructor
  · rw [accelAccess_expand, accelOpcode_word]
    rfl
  · have hread : (accelOpcode false r).zeroExtend 32 = r.zeroExtend 32 <<< 1 :=
      (accelOpcode_word false r).trans BitVec.zero_or
    rw [accelAccess_expand, hread]

end Machine
end Sys2Proof
end

section
/-! PROOF. 40_timebase.md: `now` and `delay_until` at both ClockStates, the agents' readiness, the refusal of a counter
that would wrap, and the invariant of the ClockStates. -/

namespace Sys2Proof.Machine

/-! ## The two primitives (R120, R121, R123, R124) -/

/-- Settles O21: the meaning of `now` at each ClockState. -/
theorem nowReadsTheTicks : Obligations.NowReadsTheTicks :=
  fun _ => ⟨rfl, rfl⟩

theorem exec_delayUntil_reached {c : ClockReg} {inc : Nat} {s : State} (hi : 1 ≤ inc) (h : s.clock c + inc ≤ s.ticks) :
    exec (.delayUntil c inc) s = .next (s.setClock c (s.clock c + inc)) :=
  congrArg Host.Outcome.next (delayUntil_reached hi h)

theorem exec_delayUntil_pending {c : ClockReg} {inc : Nat} {s : State} (h : s.ticks < s.clock c + inc) (hi : 1 ≤ inc) :
    exec (.delayUntil c inc) s = .next s :=
  congrArg Host.Outcome.next (delayUntil_pending h hi)

/-- Settles O22: the deadline reached, ahead, and the length 0, each for any ClockState. -/
theorem delayUntilCountsFromTheClockState : Obligations.DelayUntilCountsFromTheClockState :=
  fun _ _ => ⟨exec_delayUntil_reached (c := .spi), exec_delayUntil_reached (c := .pwm),
    exec_delayUntil_pending (c := .spi), exec_delayUntil_pending (c := .pwm), fun _ => rfl⟩

theorem exec_transfer_of_xfer {s : State} (hx : s.decState = .xfer) (w : Byte) :
    exec (.transfer w) s = .next (transferResume s) := by
  simp [exec, execTransfer, hx]

/-- Settles O17: the call resumes the transfer, whose wait is not over. -/
theorem transferWaitsForItsDeadline : Obligations.TransferWaitsForItsDeadline := by
  intro w s hx hahead hH
  rw [exec_transfer_of_xfer hx, transferResume, delayUntil_pending hahead hH]

/-! ## Readiness (R129, R216) -/

/-- Settles O9: without a mark only the place of each agent counts. -/
theorem whenAnAgentHasAStep : Obligations.WhenAnAgentHasAStep := by
  intro s hf
  obtain ⟨hbad, hperiod, hzero⟩ := any_eq_false.1 hf
  constructor
  · simpa [hbad, hzero] using decReady_iff (s := s)
  · simpa [hperiod, hzero, scaled] using pwmReady_iff (s := s)

/-! ## The range of the tick counter (R127, R248, U7) -/

/-- The range check asks something of a finite counter only. -/
theorem ticksFit_iff {s : State} :
    s.ticksFit = true ↔
      ∀ w, s.cfg.tickW = some w → s.ticks < 2 ^ w ∧ s.decDeadline < 2 ^ w ∧ s.pwmDeadline < 2 ^ w := by
  cases h : s.cfg.tickW <;> simp [State.ticksFit, tickFits, h, and_assoc]

theorem withinTicks_of_not_fit {t : State} {w : Nat} (hw : t.cfg.tickW = some w) (h : t.ticksFit ≠ true) :
    withinTicks (.next t) = .refused (.tickRange w) := by
  simp [withinTicks, h, hw]

/-- Settles O10: the range check, at the state the agent's step answers. -/
theorem wrapOfTheCounterIsRefused : Obligations.WrapOfTheCounterIsRefused := by
  refine ⟨fun s t w ha hw hout => ?_, fun s t w h hw => ?_, fun s t ha hin => ?_⟩
  · have hfit : t.ticksFit ≠ true := fun h => by
      obtain ⟨hticks, hdec, hpwm⟩ := ticksFit_iff.1 h w hw
      omega
    rw [step, ha, withinTicks_of_not_fit hw hfit]
  · obtain ⟨-, hfit⟩ := withinTicks_next.1 h
    exact ⟨hfit, ticksFit_iff.1 hfit w hw⟩
  · rw [step, ha, withinTicks_of_fit (ticksFit_iff.2 hin)]

/-! ## The invariant of the ClockStates (R123, R128, R129, R170) -/

/-- The constraint of R7 on `H`. -/
theorem one_le_halfTicks_of_wf {p : Params} (h : p.wf = true) : 1 ≤ p.halfTicks := by
  simp only [Params.wf, Bool.and_eq_true, decide_eq_true_eq] at h
  exact h.1

section places
variable {s : State}

theorem decTimely_of_not_xfer (h : s.decState ≠ .xfer) : s.decTimely := by
  unfold State.decTimely
  split
  · trivial
  · exact absurd ‹_› h
  · trivial

theorem decTimely_of_xfer (h : s.decState = .xfer) :
    s.decTimely ↔ 1 ≤ s.spiSlot.toNat ∧ s.spiSlot.toNat ≤ slotCount s.cpha ∧
      s.spiClk ≤ s.ticks ∧ s.ticks ≤ s.spiClk + s.cfg.halfTicks := by
  rw [State.decTimely, h]

theorem pwmTimely_of_snap (h : s.pwmPhase = .snap) :
    s.pwmTimely ↔ s.pwmClk = s.ticks ∧ (s.fault.pwmZeroPeriod = true ∨ s.cct.toNat ≤ s.snapP.toNat) := by
  rw [State.pwmTimely, h]

theorem pwmTimely_of_start (h : s.pwmPhase = .start) :
    s.pwmTimely ↔ s.pwmClk ≤ s.ticks ∧ s.ticks ≤ s.pwmClk + scaled s.cct s.cfg.pwmShift ∧
      1 ≤ s.snapP.toNat ∧ s.snapH.toNat ≤ s.snapP.toNat := by
  rw [State.pwmTimely, h]

theorem pwmTimely_of_fall (h : s.pwmPhase = .fall) :
    s.pwmTimely ↔ s.pwmClk ≤ s.ticks ∧ s.ticks ≤ s.pwmClk + scaled s.snapH s.cfg.pwmShift ∧
      1 ≤ s.snapH.toNat ∧ s.snapH.toNat < s.snapP.toNat := by
  rw [State.pwmTimely, h]

end places

/-! ### DEC's steps -/

theorem slotCount_range (a : Bool) : 1 ≤ slotCount a ∧ slotCount a < 31 := by
  revert a; decide

/-- A slot before the last one has a successor among the slots of the transfer (R131). -/
theorem toNat_slot_succ {k : BitVec 5} {a : Bool} (h : k.toNat ≤ slotCount a) : (k + 1).toNat = k.toNat + 1 := by
  obtain ⟨-, hcount⟩ := slotCount_range a
  rw [BitVec.toNat_add]
  exact Nat.mod_eq_of_lt (by simp; omega)

/-- What the slot loop touches (R138). -/
theorem slotStep_frame (s : State) :
    slotStep s = { s with
      sclk := (slotStep s).sclk, mosi := (slotStep s).mosi, racc := (slotStep s).racc,
      misoDraw := (slotStep s).misoDraw, spiSlot := s.spiSlot + 1 } := by
  unfold slotStep
  rw [slotAction_frame]

/-- A transfer begins in its slot 1, with its ClockState at the present instant (R133). -/
theorem transferStart_decTimely (w : Byte) (s : State) : (transferStart w s).decTimely := by
  rw [transferStart_eq, decTimely_of_xfer rfl]
  exact ⟨le_rfl, (slotCount_range s.cpha).1, le_rfl, Nat.le_add_right ..⟩

/-- A slot acted at its deadline leaves the transfer waiting in the next one (R138). -/
theorem slotStep_decTimely {s : State} (hx : s.decState = .xfer) (hslot : s.spiSlot.toNat < slotCount s.cpha)
    (hclk : s.spiClk = s.ticks) : (slotStep s).decTimely := by
  have hsucc := toNat_slot_succ hslot.le
  rw [slotStep_frame, decTimely_of_xfer]
  · exact ⟨hsucc ▸ Nat.le_add_left .., hsucc ▸ hslot, hclk.le, hclk ▸ Nat.le_add_right ..⟩
  · exact hx

/-- A transfer that goes on does so exactly at its deadline, in the next slot or by its return (R138, R128). -/
theorem transferResume_decTimely {s : State} (hH : 1 ≤ s.cfg.halfTicks) (hx : s.decState = .xfer) (h : s.decTimely) :
    (transferResume s).decTimely := by
  obtain ⟨-, hhi, -, hdl⟩ := (decTimely_of_xfer hx).1 h
  rcases transferResume_cases hH with ⟨-, e⟩ | ⟨-, -, e⟩ | ⟨hreached, hslot, e⟩ <;> rw [e]
  · exact h
  · exact decTimely_of_not_xfer nofun
  · exact slotStep_decTimely hx (Nat.lt_of_le_of_ne hhi hslot) (Nat.le_antisymm hreached hdl)

/-- With `H` at least 1 no wait of a transfer is the undefined one of R123. -/
theorem transferResume_keeps_fault {s : State} (hH : 1 ≤ s.cfg.halfTicks) : (transferResume s).fault = s.fault := by
  rcases transferResume_cases hH with ⟨-, e⟩ | ⟨-, -, e⟩ | ⟨-, -, e⟩ <;> rw [e]
  rw [slotStep_frame]
  rfl

theorem decStep_decTimely {s t : State} (hH : 1 ≤ s.cfg.halfTicks) (hd : s.decTimely) (h : decStep s = .next t) :
    t.decTimely := by
  rcases decStep_cases h with ⟨-, hc⟩ | ⟨hx, rfl⟩ | ⟨-, -, rfl⟩ | ⟨-, -, rfl⟩
  · rcases hc with ⟨_, -, rfl⟩ | ⟨_, -, rfl⟩ | ⟨_, _, -, rfl⟩ | ⟨_, _, -, rfl⟩ | ⟨_, -, rfl⟩ | rfl | ⟨_, -, rfl⟩ | rfl
    case inr.inr.inr.inr.inr.inr.inl => exact transferStart_decTimely ..
    all_goals exact decTimely_of_not_xfer nofun
  · exact transferResume_decTimely hH hx hd
  · exact decTimely_of_not_xfer nofun
  · exact hd

/-- With `H` at least 1 the one name DEC can add is that of a mode payload (R98, R123). -/
theorem decStep_marks {s t : State} (hH : 1 ≤ s.cfg.halfTicks) (h : decStep s = .next t) :
    t.fault.zeroDelay = s.fault.zeroDelay ∧ t.fault.pwmZeroPeriod = s.fault.pwmZeroPeriod := by
  rcases decStep_cases h with ⟨-, hc⟩ | ⟨-, rfl⟩ | ⟨-, -, rfl⟩ | ⟨-, -, rfl⟩
  · simp only [transferStart_eq] at hc
    rcases hc with ⟨_, -, rfl⟩ | ⟨_, -, rfl⟩ | ⟨_, _, -, rfl⟩ | ⟨_, _, -, rfl⟩ | ⟨_, -, rfl⟩ | rfl | ⟨_, -, rfl⟩ | rfl
      <;> exact ⟨rfl, rfl⟩
  · rw [transferResume_keeps_fault hH]
    exact ⟨rfl, rfl⟩
  · exact ⟨rfl, rfl⟩
  · exact ⟨rfl, rfl⟩

/-- What PWM's part of the invariant speaks of. -/
theorem pwmTimely_of_sameWaveform {s t : State} (hw : s.sameWaveform t) (hcfg : t.cfg = s.cfg)
    (hf : t.fault.pwmZeroPeriod = s.fault.pwmZeroPeriod) (h : s.pwmTimely) : t.pwmTimely := by
  obtain ⟨hticks, hclk, hcct, hphase, hp, hh, -⟩ := hw
  unfold State.pwmTimely
  rw [← hticks, ← hclk, ← hcct, ← hphase, ← hp, ← hh, hcfg, hf]
  exact h

theorem decStep_timely {s t : State} (hs : s.Timely) (h : decStep s = .next t) : t.Timely := by
  obtain ⟨hwf, hzero, hdec, hpwm⟩ := hs
  have hH := one_le_halfTicks_of_wf hwf
  have hcfg := decStep_cfg h
  obtain ⟨hz, hp⟩ := decStep_marks hH h
  obtain ⟨hwave, -⟩ := decoderWritesOnlyItsOwn s t h
  exact ⟨hcfg ▸ hwf, hz.trans hzero, decStep_decTimely hH hdec h, pwmTimely_of_sameWaveform hwave hcfg hp hpwm⟩

/-! ### PWM's steps -/

/-- DEC's part of the invariant speaks of none of PWM's registers. -/
theorem decTimely_of_pwmStep {s t : State} (h : exec .pwmCycle s = .next t) (hd : s.decTimely) : t.decTimely := by
  rw [pwmStep_frame h]
  exact hd

/-- The snapshot marks a period of 0, or leaves a clamped pair at the start of a cycle (R162 to R164). -/
theorem pwmSnap_pwmTimely {s : State} (hs : s.pwmPhase = .snap) (h : s.pwmTimely) : (pwmSnap s).pwmTimely := by
  obtain ⟨hclk, -⟩ := (pwmTimely_of_snap hs).1 h
  obtain ⟨p, hi, -, -, -, -, ⟨-, e⟩ | ⟨hp, e⟩⟩ := pwmSnap_cases s <;> rw [e]
  · rw [pwmTimely_of_snap]
    · exact ⟨hclk, .inl rfl⟩
    · exact hs
  · exact (pwmTimely_of_start rfl).2 ⟨hclk.le, hclk ▸ Nat.le_add_right .., hp, clampTo_le hi p⟩

/-- The first pin action of a cycle, at the present instant, of a clamped pair (R166 to R169). -/
theorem pwmAct_pwmTimely {s : State} (hclk : s.pwmClk = s.ticks) : (pwmAct s).pwmTimely := by
  rcases pwmAct_cases s with ⟨-, e⟩ | ⟨-, -, e⟩ | ⟨hlt, hh, e⟩ <;> rw [e]
  · exact (pwmTimely_of_snap rfl).2 ⟨hclk, .inr le_rfl⟩
  · exact (pwmTimely_of_snap rfl).2 ⟨hclk, .inr le_rfl⟩
  · exact (pwmTimely_of_fall rfl).2 ⟨hclk.le, hclk ▸ Nat.le_add_right .., hh, hlt⟩

/-- The owed wait ends exactly at its deadline (R165). -/
theorem pwmStart_pwmTimely {s : State} (hs : s.pwmPhase = .start) (h : s.pwmTimely) : (pwmStart s).pwmTimely := by
  obtain ⟨hclk, hdl, -, -⟩ := (pwmTimely_of_start hs).1 h
  rcases pwmStart_cases s with ⟨hover, e⟩ | ⟨-, -, e⟩ <;> rw [e]
  · have hmet : s.pwmClk + scaled s.cct s.cfg.pwmShift = s.ticks := by
      rcases hover with hreached | hnone
      · omega
      · have := (scaled_eq_zero (n := s.cfg.pwmShift)).2 hnone
        omega
    exact pwmAct_pwmTimely hmet
  · exact h

/-- The high time ends exactly at its deadline, and the cycle owes the rest of its period (R169). -/
theorem pwmFall_pwmTimely {s : State} (hs : s.pwmPhase = .fall) (h : s.pwmTimely) : (pwmFall s).pwmTimely := by
  obtain ⟨hclk, hdl, hh, hlt⟩ := (pwmTimely_of_fall hs).1 h
  rcases pwmFall_cases hh with ⟨hreached, e⟩ | ⟨-, e⟩ <;> rw [e]
  · have hmet : s.pwmClk + scaled s.snapH s.cfg.pwmShift = s.ticks := by omega
    have hrest : (s.snapP - s.snapH).toNat ≤ s.snapP.toNat := by
      rw [BitVec.toNat_sub_of_le (BitVec.le_def.2 hlt.le)]
      omega
    exact (pwmTimely_of_snap rfl).2 ⟨hmet, .inr hrest⟩
  · exact h

theorem pwmStep_pwmTimely {s t : State} (hs : s.pwmTimely) (h : exec .pwmCycle s = .next t) : t.pwmTimely := by
  rcases pwmStep_cases h with ⟨hph, rfl⟩ | ⟨hph, rfl⟩ | ⟨hph, rfl⟩
  · exact pwmSnap_pwmTimely hph hs
  · exact pwmStart_pwmTimely hph hs
  · exact pwmFall_pwmTimely hph hs

/-- The one wait of PWM that could be of 0 ticks is that of a high time of 0, which makes no fall (R123, R168). -/
theorem pwmStep_zeroDelay {s t : State} (hs : s.pwmTimely) (h : exec .pwmCycle s = .next t) :
    t.fault.zeroDelay = s.fault.zeroDelay := by
  rcases pwmStep_cases h with ⟨-, rfl⟩ | ⟨-, rfl⟩ | ⟨hph, rfl⟩
  · obtain ⟨_, _, -, -, -, -, ⟨-, e⟩ | ⟨-, e⟩⟩ := pwmSnap_cases s <;> rw [e]
  · rcases pwmStart_cases s with ⟨-, e⟩ | ⟨-, -, e⟩ <;> rw [e]
    rw [pwmAct_fault]
    rfl
  · obtain ⟨-, -, hh, -⟩ := (pwmTimely_of_fall hph).1 hs
    rcases pwmFall_cases hh with ⟨-, e⟩ | ⟨-, e⟩ <;> rw [e]
    rfl

theorem pwmStep_timely {s t : State} (hs : s.Timely) (h : exec .pwmCycle s = .next t) : t.Timely := by
  obtain ⟨hwf, hzero, hdec, hpwm⟩ := hs
  exact ⟨pwmStep_cfg h ▸ hwf, (pwmStep_zeroDelay hpwm h).trans hzero, decTimely_of_pwmStep h hdec,
    pwmStep_pwmTimely hpwm h⟩

/-! ### The HOST's and TB's steps -/

/-- The reset state of any SLAVE and script is that of R53 in what the invariant speaks of. -/
theorem resetNow_timely {s : State} (hs : s.Timely) (slave : Slave) (rest : List (Nat × HostAction)) :
    (s.resetNow slave rest).Timely :=
  resetIsTimely s.cfg hs.1

theorem hostStep_timely {s t : State} (hs : s.Timely) (hr : s.hostReady = true) (h : hostStep s = .next t) :
    t.Timely := by
  rcases hostStep_cases h hr with ⟨_, slave, rest, -, rfl⟩ | hn
  · exact resetNow_timely hs slave rest
  · rw [(hostStep_frame h hr hn).1]
    exact hs

/-- A DEC that has no step is not at the deadline of a slot (R129). -/
theorem tick_decTimely {s : State} (hf : s.fault.any = false) (hr : s.decReady = false) (h : s.decTimely) :
    s.tick.decTimely := by
  by_cases hx : s.decState = .xfer
  · obtain ⟨hlo, hhi, hclk, -⟩ := (decTimely_of_xfer hx).1 h
    obtain ⟨hready, -⟩ := whenAnAgentHasAStep s hf
    have hahead : ¬ s.spiClk + s.cfg.halfTicks ≤ s.ticks := fun hreached =>
      Bool.eq_false_iff.1 hr (hready.2 (.inr (.inl ⟨hx, .inr hreached⟩)))
    exact (decTimely_of_xfer (s := s.tick) hx).2 ⟨hlo, hhi, Nat.le_succ_of_le hclk, Nat.lt_of_not_le hahead⟩
  · exact decTimely_of_not_xfer hx

/-- A PWM that has no step has taken its snapshot and is not at its deadline (R129). -/
theorem tick_pwmTimely {s : State} (hf : s.fault.any = false) (hr : s.pwmReady = false) (h : s.pwmTimely) :
    s.tick.pwmTimely := by
  obtain ⟨-, hready⟩ := whenAnAgentHasAStep s hf
  have hidle := mt hready.2 (Bool.eq_false_iff.1 hr)
  cases hph : s.pwmPhase with
  | snap => exact absurd (.inl hph) hidle
  | start =>
    obtain ⟨hclk, -, hpair⟩ := (pwmTimely_of_start hph).1 h
    have hahead : ¬ s.pwmClk + scaled s.cct s.cfg.pwmShift ≤ s.ticks := fun hreached =>
      hidle (.inr (.inl ⟨hph, .inr hreached⟩))
    exact (pwmTimely_of_start (s := s.tick) hph).2 ⟨Nat.le_succ_of_le hclk, Nat.lt_of_not_le hahead, hpair⟩
  | fall =>
    obtain ⟨hclk, -, hpair⟩ := (pwmTimely_of_fall hph).1 h
    have hahead : ¬ s.pwmClk + scaled s.snapH s.cfg.pwmShift ≤ s.ticks := fun hreached =>
      hidle (.inr (.inr ⟨hph, .inr hreached⟩))
    exact (pwmTimely_of_fall (s := s.tick) hph).2 ⟨Nat.le_succ_of_le hclk, Nat.lt_of_not_le hahead, hpair⟩

/-- Settles O51, by whose step it is: the block's agents step only at their deadlines, and TB only when neither has a
step. -/
theorem everyStepKeepsDeadlines : Obligations.EveryStepKeepsDeadlines := by
  intro s t hs h
  rcases step_cases h with ⟨hr, -, hst⟩ | ⟨-, -, hst⟩ | ⟨-, -, -, hst⟩ | ⟨-, hd, hp, hf, rfl⟩
  · exact hostStep_timely hs hr hst
  · exact decStep_timely hs hst
  · exact pwmStep_timely hs hst
  · obtain ⟨hwf, hzero, hdec, hpwm⟩ := hs
    exact ⟨hwf, hzero, tick_decTimely hf hd hdec, tick_pwmTimely hf hp hpwm⟩

end Sys2Proof.Machine
end

section
/-! PROOF. 41_spi_transfer.md: the mode commands and chip-select, the start and the slots of a transfer against the
table of R132, what a sample reads, the timing of a transfer, and its return. -/

namespace Sys2Proof.Machine

/-! ## The mode commands and chip-select (R145 to R147) -/

/-- A payload of 0 or 1 is the mode bit 0 of it (R91, R98). -/
theorem modeBit_of_le_one {v : Payload} (hv : v.toNat ≤ 1) : modeBit v = some (v.getLsbD 0) := by
  cases hm : modeBit v with
  | none => exact absurd (modeBit_none.1 hm) (by omega)
  | some b => rw [(modeBit_some hm).1]

/-- Settles O12: the payload names a mode, which the command writes. -/
theorem modeCommandsWriteTheirRegister : Obligations.ModeCommandsWriteTheirRegister := by
  constructor
  · intro v s hv
    simp only [exec, execSetPolarity, modeBit_of_le_one hv]
    rfl
  · intro v s hv
    simp only [exec, execSetPhase, modeBit_of_le_one hv]
    rfl

/-- Settles O14, by whether the block has the pin. -/
theorem setCsDrivesChipSelect : Obligations.SetCsDrivesChipSelect := by
  constructor
  · intro v s hpin
    simp only [exec, execSetCs, hpin, if_true]
    rfl
  · intro v s hpin
    simp only [exec, execSetCs, hpin, Bool.false_eq_true, if_false]
    rfl

/-! ## The start of a transfer (R133, R144) -/

theorem exec_transferNow (w : Byte) (s : State) : exec (.transferNow w) s = .next (transferStart w s) := rfl

theorem exec_transfer_of_not_xfer {s : State} (hx : s.decState ≠ .xfer) (w : Byte) :
    exec (.transfer w) s = .next (transferStart w s) := by
  cases hd : s.decState with
  | idle => simp [exec, execTransfer, hd]
  | xfer => exact absurd hd hx
  | publish => simp [exec, execTransfer, hd]

/-- Settles O15: both calls are the start of a transfer. -/
theorem transferStartsWithSlotZero : Obligations.TransferStartsWithSlotZero :=
  fun w s => ⟨(exec_transferNow w s).trans (congrArg _ (transferStart_eq w s)),
    fun hx => (exec_transfer_of_not_xfer hx w).trans (exec_transferNow w s).symm⟩

/-! ## What a sample reads (R140, R148) -/

theorem pinRead_of_echo {s : State} (h : s.slave = .echo) : s.pinRead = s.mosi := by
  simp [State.pinRead, h]

theorem pinRead_of_table {s : State} {levels : List (Nat × Bool)} {v : Bool} (h : s.slave = .table levels)
    (hv : levels.lookup s.ticks = some v) : s.pinRead = v := by
  simp [State.pinRead, h, hv]

/-- Settles O18, for a wire and for a table. -/
theorem sampleSeesThePresentLevel : Obligations.SampleSeesThePresentLevel :=
  fun _ => ⟨pinRead_of_echo, fun _ _ => pinRead_of_table⟩

/-! ## One stretch of a transfer under way (R138) -/

section stretch
variable {s : State}

/-- The undefined wait of R123, in a block whose `H` breaks the constraint of R7. -/
theorem transferResume_of_zero (hH : s.cfg.halfTicks = 0) : transferResume s = s.mark .zeroDelay := by
  rw [transferResume, hH, delayUntil_zero]

variable (hH : 1 ≤ s.cfg.halfTicks)
include hH

theorem transferResume_pending (hahead : s.ticks < s.spiClk + s.cfg.halfTicks) : transferResume s = s :=
  delayUntil_pending hahead hH

theorem transferResume_returns (hreached : s.spiClk + s.cfg.halfTicks ≤ s.ticks)
    (hlast : s.spiSlot.toNat = slotCount s.cpha) :
    transferResume s = { s with spiClk := s.spiClk + s.cfg.halfTicks, decState := .publish } := by
  rcases transferResume_cases hH with ⟨h, -⟩ | ⟨-, -, e⟩ | ⟨-, h, -⟩
  · omega
  · exact e
  · exact absurd hlast h

theorem transferResume_acts (hreached : s.spiClk + s.cfg.halfTicks ≤ s.ticks)
    (hslot : s.spiSlot.toNat ≠ slotCount s.cpha) :
    transferResume s = slotStep (s.setClock .spi (s.spiClk + s.cfg.halfTicks)) := by
  rcases transferResume_cases hH with ⟨h, -⟩ | ⟨-, h, -⟩ | ⟨-, -, e⟩
  · omega
  · exact absurd h hslot
  · exact e

end stretch

/-- The number `N` of a phase is no slot of the table (R131, R132). -/
theorem slotKind_slotCount (a : Bool) : slotKind a (slotCount a) = .none := by
  cases a <;> rfl

section slots
variable {s : State} (hx : s.decState = .xfer) (hH : 1 ≤ s.cfg.halfTicks)
  (hreached : s.spiClk + s.cfg.halfTicks ≤ s.ticks)
include hx hH hreached

/-- A slot of the table is acted at its deadline (R138). -/
theorem exec_transfer_of_slot {kind : SlotKind} (w : Byte) (hkind : slotKind s.cpha s.spiSlot.toNat = kind)
    (hslot : kind ≠ .none) :
    exec (.transfer w) s = .next
      { slotAction kind (s.setClock .spi (s.spiClk + s.cfg.halfTicks)) with spiSlot := s.spiSlot + 1 } := by
  have hlast : s.spiSlot.toNat ≠ slotCount s.cpha := fun h =>
    hslot (by rw [← hkind, h, slotKind_slotCount])
  rw [exec_transfer_of_xfer hx, transferResume_acts hH hreached hlast, ← hkind]
  rfl

/-- R135. -/
theorem exec_transfer_of_drive {b : Nat} (w : Byte) (hkind : slotKind s.cpha s.spiSlot.toNat = .drive b) :
    exec (.transfer w) s = .next { s with
      spiClk := s.spiClk + s.cfg.halfTicks, spiSlot := s.spiSlot + 1,
      sclk := s.cpol ^^ s.cpha, mosi := s.wbyte.getLsbD b } :=
  exec_transfer_of_slot hx hH hreached w hkind nofun

/-- R136. -/
theorem exec_transfer_of_sample {b : Nat} (w : Byte) (hkind : slotKind s.cpha s.spiSlot.toNat = .sample b) :
    exec (.transfer w) s = .next { s with
      spiClk := s.spiClk + s.cfg.halfTicks, spiSlot := s.spiSlot + 1,
      sclk := !(s.cpol ^^ s.cpha), racc := s.racc.extractLsb' 0 7 ++ BitVec.ofBool s.pinRead,
      misoDraw := s.misoDraw + 1 } := by
  rw [← shiftIn_eq]
  exact exec_transfer_of_slot hx hH hreached w hkind nofun

/-- R137. -/
theorem exec_transfer_of_ret (w : Byte) (hkind : slotKind s.cpha s.spiSlot.toNat = .ret) :
    exec (.transfer w) s = .next { s with
      spiClk := s.spiClk + s.cfg.halfTicks, spiSlot := s.spiSlot + 1, sclk := s.cpol } :=
  exec_transfer_of_slot hx hH hreached w hkind nofun

/-- After its last slot the transfer returns (R138, R144). -/
theorem exec_transfer_of_last (w : Byte) (hlast : s.spiSlot.toNat = slotCount s.cpha) :
    exec (.transfer w) s = .next { s with spiClk := s.spiClk + s.cfg.halfTicks, decState := .publish } := by
  rw [exec_transfer_of_xfer hx, transferResume_returns hH hreached hlast]

end slots

/-- Settles O16, by the row of the table the slot number names. -/
theorem slotsActAsTheTableSays : Obligations.SlotsActAsTheTableSays := by
  intro w s hx hH hreached
  constructor
  · intro ha
    refine ⟨fun j hj hk => ?_, fun j hj hk => ⟨s.misoDraw + 1, ?_⟩, fun hk => ?_, fun hk => ?_⟩
    · have hkind := slotKind_phase0_drive hj
      rw [← hk, ← ha] at hkind
      rw [exec_transfer_of_drive hx hH hreached w hkind, ha, Bool.xor_false]
    · have hkind := slotKind_phase0_sample hj
      rw [← hk, ← ha] at hkind
      rw [exec_transfer_of_sample hx hH hreached w hkind, ha, Bool.xor_false]
    · have hkind := slotKind_return
      rw [← hk, ← ha] at hkind
      exact exec_transfer_of_ret hx hH hreached w hkind
    · exact exec_transfer_of_last hx hH hreached w (by rw [hk, ha]; rfl)
  · intro ha
    refine ⟨fun j hj hk => ?_, fun j hj hk => ⟨s.misoDraw + 1, ?_⟩, fun hk => ?_⟩
    · have hkind := slotKind_phase1_drive hj
      rw [← hk, ← ha] at hkind
      rw [exec_transfer_of_drive hx hH hreached w hkind, ha, Bool.xor_true]
    · have hkind := slotKind_phase1_sample hj
      rw [← hk, ← ha] at hkind
      rw [exec_transfer_of_sample hx hH hreached w hkind, ha, Bool.xor_true, Bool.not_not]
    · exact exec_transfer_of_last hx hH hreached w (by rw [hk, ha]; rfl)

/-! ## The timing of a transfer (R142) -/

/-- Settles O20: whether DEC waits, returns or acts a slot is decided by the time, the ClockState and the slot number
alone, and a slot action touches none of them. -/
theorem transferTimingIgnoresTheData : Obligations.TransferTimingIgnoresTheData := by
  intro s t hs ht hticks hclk hslot hcpha hcfg hfault
  refine ⟨?_, fun v w s' t' hs' ht' => ?_⟩
  · rw [Bool.eq_iff_iff, decReady_iff, decReady_iff, hs, ht, hcfg, hticks, hclk, hfault]
    simp
  rw [exec_transfer_of_xfer hs] at hs'
  rw [exec_transfer_of_xfer ht] at ht'
  cases hs'
  cases ht'
  have hlen : s.cfg.halfTicks = t.cfg.halfTicks := by rw [hcfg]
  have hnum : s.spiSlot.toNat = t.spiSlot.toNat := by rw [hslot]
  have hlast : slotCount s.cpha = slotCount t.cpha := by rw [hcpha]
  by_cases hH : s.cfg.halfTicks = 0
  · rw [transferResume_of_zero hH, transferResume_of_zero (by omega)]
    simp [*]
  by_cases hreached : s.spiClk + s.cfg.halfTicks ≤ s.ticks
  · by_cases hend : s.spiSlot.toNat = slotCount s.cpha
    · rw [transferResume_returns (by omega) hreached hend,
        transferResume_returns (by omega) (by omega) (by omega)]
      simp [*]
    · rw [transferResume_acts (by omega) hreached hend,
        transferResume_acts (by omega) (by omega) (by omega), slotStep_frame, slotStep_frame (t.setClock ..)]
      simp [*]
  · rw [transferResume_pending (by omega) (by omega), transferResume_pending (by omega) (by omega)]
    simp [*]

end Sys2Proof.Machine
end

section
/-! PROOF. 41_spi_transfer.md rules R131 to R142: the wire and the accumulator along a transfer, its return, and that
it does return. -/

namespace Sys2Proof.Machine

/-! ## The table as a waveform (R132) -/

theorem slotClock_drive (c a : Bool) (j : Nat) :
    slotClock c a (if a then 2 * j else 1 + 2 * j) = (c ^^ a) := by
  cases a
  · have hodd : (1 + 2 * j) % 2 = 1 := by omega
    simp [slotClock, hodd]
  · simp [slotClock]

theorem slotClock_sample (c a : Bool) (j : Nat) : slotClock c a (sampleSlot a j) = !(c ^^ a) := by
  cases a
  · have h : 2 * j + 2 ≠ 17 := by omega
    simp [slotClock, sampleSlot, h]
  · have hodd : (2 * j + 1) % 2 = 1 := by omega
    simp [slotClock, sampleSlot, hodd]

theorem slotData_drive (w : Byte) (a : Bool) (j : Nat) :
    slotData w a (if a then 2 * j else 1 + 2 * j) = bitOf w (7 - j) := by
  cases a <;> simp [slotData]

/-- A sample slot finds on `mosi` the bit its drive slot left there. -/
theorem slotData_before_sample (w : Byte) (a : Bool) (j : Nat) :
    slotData w a (sampleSlot a j - 1) = bitOf w (7 - j) := by
  cases a <;> simp [slotData, sampleSlot]

theorem slotData_sample (w : Byte) (a : Bool) (j : Nat) : slotData w a (sampleSlot a j) = bitOf w (7 - j) := by
  cases a
  · have h : (2 * j + 1) / 2 = j := by omega
    simp [slotData, sampleSlot, h]
  · have h : (2 * j + 1) / 2 = j := by omega
    simp [slotData, sampleSlot, h]

/-- The clock level a slot writes is the table's. -/
theorem slotAction_sclk {s : State} {k : Nat} (hk : k < slotCount s.cpha) :
    (slotAction (slotKind s.cpha k) s).sclk = slotClock s.cpol s.cpha k := by
  rcases slotKind_cases hk with ⟨ha, hnum, e⟩ | ⟨ha, hnum, e⟩ | ⟨j, hj, hkj, e⟩ | ⟨j, hj, hkj, e⟩ <;> rw [e]
  · rw [ha, hnum]
    rfl
  · rw [ha, hnum]
    rfl
  · rw [hkj, slotClock_drive]
    rfl
  · rw [hkj, slotClock_sample]
    rfl

/-- After a slot `mosi` carries the bit last driven. -/
theorem slotAction_mosi {s : State} {k : Nat} (hk : k < slotCount s.cpha)
    (hmosi : s.mosi = slotData s.wbyte s.cpha (k - 1)) :
    (slotAction (slotKind s.cpha k) s).mosi = slotData s.wbyte s.cpha k := by
  rcases slotKind_cases hk with ⟨ha, hnum, e⟩ | ⟨ha, hnum, e⟩ | ⟨j, hj, hkj, e⟩ | ⟨j, hj, hkj, e⟩ <;> rw [e]
  · rw [ha, hnum]
    rfl
  · rw [ha, hnum] at hmosi ⊢
    exact hmosi
  · rw [hkj, slotData_drive]
    rfl
  · rw [hkj, slotData_before_sample] at hmosi
    rw [hkj, slotData_sample]
    exact hmosi

/-- The return of a transfer finds the clock line at its idle level (R141). -/
theorem slotClock_last (c a : Bool) : slotClock c a (slotCount a - 1) = c := by
  cases a <;> rfl

/-! ## The wire along a run (R132, R141) -/

section places
variable {s : State}

theorem onTheWire_of_idle (h : s.decState = .idle) : s.onTheWire := by
  rw [State.onTheWire, h]
  trivial

theorem onTheWire_of_xfer (h : s.decState = .xfer) :
    s.onTheWire ↔ 1 ≤ s.spiSlot.toNat ∧ s.spiSlot.toNat ≤ slotCount s.cpha ∧
      s.sclk = slotClock s.cpol s.cpha (s.spiSlot.toNat - 1) ∧
      s.mosi = slotData s.wbyte s.cpha (s.spiSlot.toNat - 1) := by
  rw [State.onTheWire, h]

theorem onTheWire_of_publish (h : s.decState = .publish) : s.onTheWire ↔ s.sclk = s.cpol := by
  rw [State.onTheWire, h]

end places

/-- Slot 0 is the dummy slot in phase 0 and drives bit 7 in phase 1 (R133 to R135). -/
theorem transferStart_onTheWire (w : Byte) (s : State) : (transferStart w s).onTheWire := by
  rw [transferStart_eq, onTheWire_of_xfer rfl]
  refine ⟨le_rfl, (slotCount_range s.cpha).1, ?_, ?_⟩ <;> cases h : s.cpha <;>
    simp [slotClock, slotData, bitOf]

/-- The slot loop goes from one row of the table to the next (R138). -/
theorem slotStep_onTheWire {s : State} (hx : s.decState = .xfer) (hslot : s.spiSlot.toNat < slotCount s.cpha)
    (h : s.onTheWire) : (slotStep s).onTheWire := by
  obtain ⟨-, -, -, hmosi⟩ := (onTheWire_of_xfer hx).1 h
  have hsucc := toNat_slot_succ hslot.le
  have hsclk' := slotAction_sclk hslot
  have hmosi' := slotAction_mosi hslot hmosi
  rw [slotStep_frame, onTheWire_of_xfer]
  · refine ⟨hsucc ▸ Nat.le_add_left .., hsucc ▸ hslot, ?_, ?_⟩ <;> simp only [hsucc, Nat.add_sub_cancel]
    · exact hsclk'
    · exact hmosi'
  · exact hx

theorem transferResume_onTheWire {s : State} (hH : 1 ≤ s.cfg.halfTicks) (hx : s.decState = .xfer) (h : s.onTheWire) :
    (transferResume s).onTheWire := by
  obtain ⟨-, hhi, hsclk, -⟩ := (onTheWire_of_xfer hx).1 h
  rcases transferResume_cases hH with ⟨-, e⟩ | ⟨-, hlast, e⟩ | ⟨-, hslot, e⟩ <;> rw [e]
  · exact h
  · rw [onTheWire_of_publish rfl]
    rwa [hlast, slotClock_last] at hsclk
  · exact slotStep_onTheWire hx (Nat.lt_of_le_of_ne hhi hslot) h

theorem decStep_onTheWire {s t : State} (hH : 1 ≤ s.cfg.halfTicks) (hw : s.onTheWire) (h : decStep s = .next t) :
    t.onTheWire := by
  rcases decStep_cases h with ⟨-, hc⟩ | ⟨hx, rfl⟩ | ⟨-, -, rfl⟩ | ⟨-, -, rfl⟩
  · rcases hc with ⟨_, -, rfl⟩ | ⟨_, -, rfl⟩ | ⟨_, _, -, rfl⟩ | ⟨_, _, -, rfl⟩ | ⟨_, -, rfl⟩ | rfl | ⟨_, -, rfl⟩ | rfl
    case inr.inr.inr.inr.inr.inr.inl => exact transferStart_onTheWire ..
    all_goals exact onTheWire_of_idle rfl
  · exact transferResume_onTheWire hH hx hw
  · exact onTheWire_of_idle rfl
  · exact hw

/-- Settles O52, by whose step it is: only DEC writes the SPI outputs, and the reset leaves DEC idle. -/
theorem everyStepKeepsTheWire : Obligations.EveryStepKeepsTheWire := by
  intro s t hs hw h
  rcases step_cases h with ⟨hr, -, hst⟩ | ⟨-, -, hst⟩ | ⟨-, -, -, hst⟩ | ⟨-, -, -, -, rfl⟩
  · rcases hostStep_cases hst hr with ⟨_, _, _, -, rfl⟩ | hn
    · exact onTheWire_of_idle rfl
    · rw [(hostStep_frame hst hr hn).1]
      exact hw
  · exact decStep_onTheWire (one_le_halfTicks_of_wf hs.1) hw hst
  · rw [pwmStep_frame hst]
    exact hw
  · exact hw

/-! ## The accumulator along a run (R136, R139) -/

/-- A sample of bit `7-j` after the first `j` bits of `b` (R136). -/
theorem shiftIn_bitOf (b : Byte) {j : Nat} (hj : j < 8) :
    shiftIn (b >>> (8 - j)) (bitOf b (7 - j)) = b >>> (8 - (j + 1)) := by
  apply BitVec.eq_of_getLsbD_eq
  intro i hi
  by_cases h0 : i = 0
  · simp [shiftIn, bitOf, h0]
  · have hij : 8 - j + (i - 1) = 7 - j + i := by omega
    simp [shiftIn, bitOf, hi, h0, hij]

theorem sampledBefore_one (a : Bool) : sampledBefore a 1 = 0 := by
  cases a <;> rfl

theorem sampledBefore_last (a : Bool) : sampledBefore a (slotCount a) = 8 := by
  cases a <;> rfl

theorem sampledBefore_sample (a : Bool) (j : Nat) :
    sampledBefore a (sampleSlot a j) = j ∧ sampledBefore a (sampleSlot a j + 1) = j + 1 := by
  cases a <;> simp [sampledBefore, sampleSlot] <;> omega

theorem sampledBefore_drive (a : Bool) (j : Nat) :
    sampledBefore a ((if a then 2 * j else 1 + 2 * j) + 1) = sampledBefore a (if a then 2 * j else 1 + 2 * j) := by
  cases a <;> simp [sampledBefore] <;> omega

/-- What a slot does to the accumulator, when the level a sample slot reads is the next bit of `b` (R132, R139). -/
theorem slotAction_racc {s : State} {k : Nat} {b : Byte} (hk : k < slotCount s.cpha)
    (hread : ∀ j, j < 8 → k = sampleSlot s.cpha j → s.pinRead = bitOf b (7 - j))
    (hracc : s.racc = b >>> (8 - sampledBefore s.cpha k)) :
    (slotAction (slotKind s.cpha k) s).racc = b >>> (8 - sampledBefore s.cpha (k + 1)) := by
  rcases slotKind_cases hk with ⟨ha, hnum, e⟩ | ⟨ha, hnum, e⟩ | ⟨j, hj, hkj, e⟩ | ⟨j, hj, hkj, e⟩ <;> rw [e]
  · rw [ha, hnum] at hracc ⊢
    exact hracc
  · rw [ha, hnum] at hracc ⊢
    exact hracc
  · rw [hkj] at hracc ⊢
    rw [sampledBefore_drive]
    exact hracc
  · obtain ⟨hbefore, hafter⟩ := sampledBefore_sample s.cpha j
    rw [hkj, hafter, ← shiftIn_bitOf b hj, ← hread j hj hkj]
    rw [hkj, hbefore] at hracc
    rw [← hracc]
    rfl

/-- DEC's registers in a transfer started at `T0` from a SLAVE that sends `b`, but for the two outputs: the ClockState
stands at the slot (R131), the accumulator holds the bits sampled so far (R139). -/
def State.sampling (s : State) (T0 : Nat) (w b : Byte) : Prop :=
  s.decState = .xfer ∧ s.wbyte = w ∧ s.slaveSends T0 b ∧
    s.spiClk = T0 + (s.spiSlot.toNat - 1) * s.cfg.halfTicks ∧
    s.racc = b >>> (8 - sampledBefore s.cpha s.spiSlot.toNat)

theorem transferring_iff {s : State} {T0 : Nat} {w b : Byte} :
    s.transferring T0 w b ↔ s.sampling T0 w b ∧ s.decTimely ∧ s.onTheWire := by
  constructor
  · rintro ⟨hx, hw, hsend, hlo, hhi, hspi, hclk, hdl, hsclk, hmosi, hracc⟩
    exact ⟨⟨hx, hw, hsend, hspi, hracc⟩, (decTimely_of_xfer hx).2 ⟨hlo, hhi, hclk, hdl⟩,
      (onTheWire_of_xfer hx).2 ⟨hlo, hhi, hsclk, hw ▸ hmosi⟩⟩
  · rintro ⟨⟨hx, hw, hsend, hspi, hracc⟩, htimely, hwire⟩
    obtain ⟨hlo, hhi, hclk, hdl⟩ := (decTimely_of_xfer hx).1 htimely
    obtain ⟨-, -, hsclk, hmosi⟩ := (onTheWire_of_xfer hx).1 hwire
    exact ⟨hx, hw, hsend, hlo, hhi, hspi, hclk, hdl, hsclk, hw ▸ hmosi, hracc⟩

/-- At the `j`-th sample instant the level read is bit `7-j` of the byte SLAVE sends (R139, R140, R148). -/
theorem pinRead_of_slaveSends {s : State} {T0 j : Nat} {b : Byte} (hsend : s.slaveSends T0 b) (hj : j < 8)
    (hnow : s.ticks = T0 + sampleSlot s.cpha j * s.cfg.halfTicks)
    (hmosi : s.mosi = slotData s.wbyte s.cpha (sampleSlot s.cpha j - 1)) : s.pinRead = bitOf b (7 - j) := by
  unfold State.slaveSends at hsend
  split at hsend
  · rename_i levels hslave
    exact pinRead_of_table hslave (hnow ▸ hsend j hj)
  · rename_i hslave
    rw [pinRead_of_echo hslave, hmosi, slotData_before_sample, hsend]

/-- A slot acted at its instant goes on sampling (R138, R139). -/
theorem slotStep_sampling {s : State} {T0 : Nat} {w b : Byte} (hx : s.decState = .xfer) (hw : s.wbyte = w)
    (hslot : s.spiSlot.toNat < slotCount s.cpha) (hsend : s.slaveSends T0 b)
    (hnow : s.ticks = T0 + s.spiSlot.toNat * s.cfg.halfTicks) (hclk : s.spiClk = s.ticks) (hwire : s.onTheWire)
    (hracc : s.racc = b >>> (8 - sampledBefore s.cpha s.spiSlot.toNat)) : (slotStep s).sampling T0 w b := by
  obtain ⟨-, -, -, hmosi⟩ := (onTheWire_of_xfer hx).1 hwire
  have hsucc := toNat_slot_succ hslot.le
  have hracc' := slotAction_racc hslot
    (fun j hj hk => pinRead_of_slaveSends hsend hj (hk ▸ hnow) (hk ▸ hmosi)) hracc
  rw [slotStep_frame]
  refine ⟨hx, hw, hsend, ?_, ?_⟩ <;> simp only [hsucc, Nat.add_sub_cancel]
  · exact hclk.trans hnow
  · exact hracc'

/-- The deadline of slot `k` is `k` half-cycles after the start (R131). -/
theorem sampling_deadline {s : State} {T0 : Nat} {w b : Byte} (h : s.sampling T0 w b) (hlo : 1 ≤ s.spiSlot.toNat) :
    s.spiClk + s.cfg.halfTicks = T0 + s.spiSlot.toNat * s.cfg.halfTicks := by
  obtain ⟨-, -, -, hspi, -⟩ := h
  obtain ⟨k, hk⟩ := Nat.exists_eq_add_of_le' hlo
  rw [hspi, hk, Nat.add_sub_cancel, Nat.succ_mul, Nat.add_assoc]

/-- `t` is the return from the transfer under way in `s`, started at `T0`, with the byte `b` read (R141, R142, R144). -/
def State.returned (t s : State) (T0 : Nat) (b : Byte) : Prop :=
  t.decState = .publish ∧ t.racc = b ∧ t.ticks = T0 + (if s.cpha then 16 else 18) * s.cfg.halfTicks ∧
    t.spiClk = t.ticks ∧ t.sclk = s.cpol

/-- DEC's stretch of a transfer goes on sampling, or returns at its instant with the byte. -/
theorem transferResume_sampling {s : State} {T0 : Nat} {w b : Byte} (hH : 1 ≤ s.cfg.halfTicks)
    (h : s.transferring T0 w b) :
    (transferResume s).sampling T0 w b ∨ (transferResume s).returned s T0 b := by
  obtain ⟨hsam, htimely, hwire⟩ := transferring_iff.1 h
  have ⟨hx, hw, hsend, _, hracc⟩ := hsam
  obtain ⟨hlo, hhi, -, hdl⟩ := (decTimely_of_xfer hx).1 htimely
  have hat := sampling_deadline hsam hlo
  rcases transferResume_cases hH with ⟨-, e⟩ | ⟨hreached, hlast, e⟩ | ⟨hreached, hslot, e⟩ <;> rw [e]
  · exact .inl hsam
  · right
    have hwire' := transferResume_onTheWire hH hx hwire
    rw [e, onTheWire_of_publish rfl] at hwire'
    rw [hlast, sampledBefore_last] at hracc
    rw [hlast] at hat
    exact ⟨rfl, hracc, (Nat.le_antisymm hdl hreached).trans hat, Nat.le_antisymm hreached hdl, hwire'⟩
  · left
    have hmet := Nat.le_antisymm hreached hdl
    exact slotStep_sampling hx hw (Nat.lt_of_le_of_ne hhi hslot) hsend (hmet ▸ hat) hmet hwire hracc

/-- Inside a transfer DEC's step is one stretch of it (R180). -/
theorem decStep_of_xfer {s : State} (hx : s.decState = .xfer) : decStep s = .next (transferResume s) := by
  rw [decStep, hx]
  exact exec_transfer_of_xfer hx _

/-- A step that is not the reset goes on sampling, or is the return. -/
theorem step_sampling {s t : State} {T0 : Nat} {w b : Byte} (hs : s.Timely) (htr : s.transferring T0 w b)
    (hc : s.resetComes = false) (h : step s = .next t) : t.sampling T0 w b ∨ t.returned s T0 b := by
  obtain ⟨hsam, -, -⟩ := transferring_iff.1 htr
  rcases step_cases h with ⟨hr, hf, hst⟩ | ⟨-, -, hst⟩ | ⟨-, -, -, hst⟩ | ⟨-, -, -, -, rfl⟩
  · rw [(hostStep_frame hst hr (not_reset_of_resetComes hc hr hf)).1]
    exact .inl hsam
  · rw [decStep_of_xfer hsam.1] at hst
    cases hst
    exact transferResume_sampling (one_le_halfTicks_of_wf hs.1) htr
  · rw [pwmStep_frame hst]
    exact .inl hsam
  · exact .inl hsam

/-- Settles O53: the deadlines and the wire are kept by every step, and the rest of such a state is what `sampling`
says. -/
theorem transferReadsTheSlavesByteOnTime : Obligations.TransferReadsTheSlavesByteOnTime := by
  intro s t T0 w b hs htr hc h
  obtain ⟨-, -, hwire⟩ := transferring_iff.1 htr
  obtain ⟨-, -, htimely, -⟩ := everyStepKeepsDeadlines s t hs h
  exact (step_sampling hs htr hc h).imp_left fun hsam =>
    transferring_iff.2 ⟨hsam, htimely, everyStepKeepsTheWire s t hs hwire h⟩

end Sys2Proof.Machine
end

section
/-! PROOF. 41_spi_transfer.md rules R131 to R142, R148 and 60_exceptions.md rule R216: a transfer begins, and it
returns in the end. -/

namespace Sys2Proof.Machine

/-! ## The start of such a transfer (R133, R139, R148) -/

theorem transferStart_sampling {s : State} {w b : Byte} (hsend : ({ s with wbyte := w } : State).slaveSends s.ticks b) :
    (transferStart w s).sampling s.ticks w b := by
  have hracc : (0 : Byte) = b >>> (8 - sampledBefore s.cpha 1) := by
    rw [sampledBefore_one]
    exact (BitVec.ushiftRight_eq_zero le_rfl).symm
  rw [transferStart_eq]
  exact ⟨rfl, rfl, hsend, by simp, hracc⟩

/-- Settles O54: slot 0 starts the wire, the ClockState and an empty accumulator. -/
theorem transferNowBeginsATransfer : Obligations.TransferNowBeginsATransfer :=
  fun s w _ hsend => ⟨transferStart w s, exec_transferNow w s,
    transferring_iff.2 ⟨transferStart_sampling hsend, transferStart_decTimely w s, transferStart_onTheWire w s⟩⟩

/-! ## The return (R142, R216) -/

/-- Nothing is there that could keep a transfer from returning: no HOST action to come (R232), no end of the counter
(U7), no mark, and no period of 0 for PWM to read (R164). -/
structure State.Undisturbed (s : State) : Prop where
  script : s.hostScript = []
  unbounded : s.cfg.tickW = none
  unmarked : s.fault.any = false
  period : 1 ≤ s.period.toNat
  periodPrev : 1 ≤ s.periodPrev.toNat

theorem hostReady_of_no_script {s : State} (h : s.hostScript = []) : s.hostReady = false := by
  simp [State.hostReady, h]

theorem resetComes_of_not_ready {s : State} (h : s.hostReady = false) : s.resetComes = false := by
  simp [State.resetComes, h]

/-- With an unbounded counter nothing is refused for its range (R7, U7). -/
theorem ticksFit_of_unbounded {s : State} (h : s.cfg.tickW = none) : s.ticksFit = true :=
  ticksFit_iff.2 fun w hw => by simp [h] at hw

/-- Where the step cannot be refused or stopped it answers a state. -/
theorem State.Undisturbed.step_next {s : State} (h : s.Undisturbed) (hx : s.decState = .xfer) :
    ∃ t, step s = .next t := by
  have hr := hostReady_of_no_script h.script
  obtain ⟨t, ht, hcfg⟩ : ∃ t, agentStep s = .next t ∧ t.cfg = s.cfg := by
    cases hd : s.decReady with
    | true => exact ⟨_, by simp [agentStep, hr, hd, decStep_of_xfer hx], transferResume_cfg s⟩
    | false =>
      cases hp : s.pwmReady with
      | true =>
        obtain ⟨t, ht⟩ := exec_next .pwmCycle s
        exact ⟨t, by simp [agentStep, hr, hd, hp, pwmStep, ht], pwmStep_cfg ht⟩
      | false => exact ⟨_, by simp [agentStep, hr, hd, hp, h.unmarked], tick_cfg s⟩
  exact ⟨t, by rw [step, ht, withinTicks_of_fit (ticksFit_of_unbounded (hcfg ▸ h.unbounded))]⟩

/-- A snapshot of periods that are not 0 leads to `START` (R162, R164). -/
theorem State.Undisturbed.pwmSnap_eq {s : State} (h : s.Undisturbed) :
    ∃ p hi, 1 ≤ p.toNat ∧ pwmSnap s = { s with
      snapP := p, snapH := clampTo hi p, periodPrev := p, highPrev := hi, raceDraw := s.raceDraw + 2,
      pwmPhase := .start } := by
  obtain ⟨p, hi, hp, -, -, -, ⟨h0, -⟩ | ⟨h1, e⟩⟩ := pwmSnap_cases s
  · have hperiod := h.period
    have hprev := h.periodPrev
    rcases hp with rfl | rfl <;> omega
  · exact ⟨p, hi, h1, e⟩

/-- PWM marks nothing, and the period it has read is not 0. -/
theorem State.Undisturbed.fault_of_pwmStep {s t : State} (h : s.Undisturbed) (hs : s.pwmTimely)
    (hst : exec .pwmCycle s = .next t) : t.fault = s.fault ∧ 1 ≤ t.periodPrev.toNat := by
  rcases pwmStep_cases hst with ⟨-, rfl⟩ | ⟨-, rfl⟩ | ⟨hph, rfl⟩
  · obtain ⟨p, _, hp, e⟩ := h.pwmSnap_eq
    rw [e]
    exact ⟨rfl, hp⟩
  · rcases pwmStart_cases s with ⟨-, e⟩ | ⟨-, -, e⟩ <;> rw [e]
    · rcases pwmAct_cases (s.setClock .pwm (s.pwmClk + scaled s.cct s.cfg.pwmShift)) with
        ⟨-, e⟩ | ⟨-, -, e⟩ | ⟨-, -, e⟩ <;> rw [e] <;> exact ⟨rfl, h.periodPrev⟩
    · exact ⟨rfl, h.periodPrev⟩
  · obtain ⟨-, -, hh, -⟩ := (pwmTimely_of_fall hph).1 hs
    rcases pwmFall_cases hh with ⟨-, e⟩ | ⟨-, e⟩ <;> rw [e] <;> exact ⟨rfl, h.periodPrev⟩

/-- Inside a transfer no step brings anything in that could keep it from returning. -/
theorem State.Undisturbed.of_step {s t : State} (h : s.Undisturbed) (hs : s.Timely) (hx : s.decState = .xfer)
    (hst : step s = .next t) : t.Undisturbed := by
  obtain ⟨hwf, -, -, hpwm⟩ := hs
  have hr := hostReady_of_no_script h.script
  rcases step_cases hst with ⟨hr', -, -⟩ | ⟨-, -, hd⟩ | ⟨-, -, -, hp⟩ | ⟨-, -, -, -, rfl⟩
  · simp [hr] at hr'
  · rw [decStep_of_xfer hx] at hd
    cases hd
    have hfault := transferResume_keeps_fault (one_le_halfTicks_of_wf hwf)
    rw [transferResume_frame, hfault]
    exact ⟨h.script, h.unbounded, h.unmarked, h.period, h.periodPrev⟩
  · obtain ⟨hfault, hprev⟩ := h.fault_of_pwmStep hpwm hp
    rw [pwmStep_frame hp, hfault]
    exact ⟨h.script, h.unbounded, h.unmarked, h.period, hprev⟩
  · exact ⟨h.script, h.unbounded, h.unmarked, h.period, h.period⟩

/-- What PWM still does before its ClockState moves: with nothing owed (R165) it starts a cycle without a wait. -/
def State.pwmDue (s : State) : Nat :=
  match s.pwmPhase with
  | .snap => if s.cct.toNat = 0 then 3 else 1
  | .start => if s.cct.toNat = 0 then 2 else 0
  | .fall => 0

theorem pwmDue_le (s : State) : s.pwmDue ≤ 3 := by
  unfold State.pwmDue
  split
  · split <;> omega
  · split <;> omega
  · omega

/-- A bound on the steps a transfer under way still takes until the instant `tEnd` of its return: PWM's ClockState, the
time and the slot number all move towards it. -/
def State.stepsLeft (s : State) (tEnd : Nat) : Nat :=
  4 * (tEnd - s.pwmClk) + (tEnd - s.ticks) + (slotCount s.cpha - s.spiSlot.toNat) + s.pwmDue

/-- At the start of a cycle, what is owed or that nothing is owed pays for two steps more. -/
theorem two_le_pwmDue_of_start {s : State} (h : s.pwmPhase = .start) :
    2 ≤ 4 * scaled s.cct s.cfg.pwmShift + s.pwmDue := by
  have howed := scaled_pos (v := s.cct) (n := s.cfg.pwmShift)
  rw [State.pwmDue, h]
  dsimp only
  split <;> omega

/-- The first pin action of a cycle leaves a wait of at least a tick to come, for the period or for the high time. -/
theorem pwmAct_due {s : State} (hp : 1 ≤ s.snapP.toNat) : (pwmAct s).pwmClk = s.pwmClk ∧ (pwmAct s).pwmDue ≤ 1 := by
  have hp0 : s.snapP.toNat ≠ 0 := by omega
  rcases pwmAct_cases s with ⟨-, e⟩ | ⟨-, -, e⟩ | ⟨-, -, e⟩ <;> rw [e] <;> simp [State.pwmDue, hp0]

/-- A step of PWM moves its ClockState, or brings it nearer to its next wait (R165 to R169). -/
theorem State.Undisturbed.pwmStep_due {s t : State} (h : s.Undisturbed) (hs : s.pwmTimely) (hr : s.pwmReady = true)
    (hst : exec .pwmCycle s = .next t) : 4 * s.pwmClk + t.pwmDue < 4 * t.pwmClk + s.pwmDue := by
  obtain ⟨-, -, hready⟩ := pwmReady_iff.1 hr
  rcases pwmStep_cases hst with ⟨hph, rfl⟩ | ⟨hph, rfl⟩ | ⟨hph, rfl⟩
  · obtain ⟨p, _, -, e⟩ := h.pwmSnap_eq
    rw [e]
    simp only [State.pwmDue, hph]
    split <;> omega
  · obtain ⟨-, -, hp, -⟩ := (pwmTimely_of_start hph).1 hs
    have hover : s.cct.toNat = 0 ∨ s.pwmClk + scaled s.cct s.cfg.pwmShift ≤ s.ticks := by simpa [hph] using hready
    have hpaid := two_le_pwmDue_of_start hph
    rcases pwmStart_cases s with ⟨-, e⟩ | ⟨hahead, howed, -⟩
    · have hact := pwmAct_due (s := s.setClock .pwm (s.pwmClk + scaled s.cct s.cfg.pwmShift)) hp
      rw [← e, setClock_pwm_pwmClk] at hact
      omega
    · omega
  · obtain ⟨-, -, hh, -⟩ := (pwmTimely_of_fall hph).1 hs
    have hover : s.snapH.toNat = 0 ∨ s.pwmClk + scaled s.snapH s.cfg.pwmShift ≤ s.ticks := by simpa [hph] using hready
    rcases pwmFall_cases hh with ⟨-, e⟩ | ⟨hahead, -⟩
    · have hdue := pwmDue_le (pwmFall s)
      have hmoved := (scaled_pos (n := s.cfg.pwmShift)).2 hh
      have hclk : (pwmFall s).pwmClk = s.pwmClk + scaled s.snapH s.cfg.pwmShift := by rw [e]; rfl
      omega
    · omega

theorem pwmClk_le_ticks {s : State} (h : s.pwmTimely) : s.pwmClk ≤ s.ticks := by
  cases hph : s.pwmPhase with
  | snap => exact ((pwmTimely_of_snap hph).1 h).1.le
  | start => exact ((pwmTimely_of_start hph).1 h).1
  | fall => exact ((pwmTimely_of_fall hph).1 h).1

/-- A slot acted is one slot fewer to act, and PWM is where it was (R138). -/
theorem transferResume_stepsLeft {s : State} (hH : 1 ≤ s.cfg.halfTicks) (hhi : s.spiSlot.toNat ≤ slotCount s.cpha)
    (hreached : s.spiClk + s.cfg.halfTicks ≤ s.ticks) (hx' : (transferResume s).decState = .xfer) (tEnd : Nat) :
    (transferResume s).stepsLeft tEnd < s.stepsLeft tEnd := by
  rcases transferResume_cases hH with ⟨hahead, -⟩ | ⟨-, -, e⟩ | ⟨-, hslot, e⟩
  · omega
  · rw [e] at hx'
    cases hx'
  · have hsucc : (transferResume s).spiSlot.toNat = s.spiSlot.toNat + 1 := by
      rw [e, slotStep_frame]
      exact toNat_slot_succ hhi
    have hsame : (transferResume s).stepsLeft tEnd = 4 * (tEnd - s.pwmClk) + (tEnd - s.ticks) +
        (slotCount s.cpha - (transferResume s).spiSlot.toNat) + s.pwmDue := by
      rw [transferResume_frame]
      rfl
    rw [hsame, hsucc, State.stepsLeft]
    omega

/-- A step of PWM, which ends at the present instant or before, is one step fewer to take. -/
theorem State.Undisturbed.pwmStep_stepsLeft {s t : State} {tEnd : Nat} (h : s.Undisturbed) (hs : s.pwmTimely)
    (hr : s.pwmReady = true) (hst : exec .pwmCycle s = .next t) (hclk : t.pwmClk ≤ tEnd) :
    t.stepsLeft tEnd < s.stepsLeft tEnd := by
  have hdue := h.pwmStep_due hs hr hst
  have hsame : t.stepsLeft tEnd = 4 * (tEnd - t.pwmClk) + (tEnd - s.ticks) +
      (slotCount s.cpha - s.spiSlot.toNat) + t.pwmDue := by
    rw [pwmStep_frame hst]
    rfl
  rw [hsame, State.stepsLeft]
  omega

/-- A tick that does not pass the instant of the return is one step fewer to take (R129). -/
theorem tick_stepsLeft {s : State} {tEnd : Nat} (h : s.tick.ticks ≤ tEnd) : s.tick.stepsLeft tEnd < s.stepsLeft tEnd := by
  have hdue : s.tick.pwmDue = s.pwmDue := rfl
  rw [State.stepsLeft, State.stepsLeft, hdue]
  simp only [tick_ticks, tick_pwmClk, tick_cpha, tick_spiSlot] at h ⊢
  omega

/-- A step after which the transfer is still under way, with its return not passed, is one step fewer to take. -/
theorem State.Undisturbed.step_stepsLeft {s t : State} {tEnd : Nat} (h : s.Undisturbed) (hs : s.Timely)
    (hx : s.decState = .xfer) (hst : step s = .next t) (hx' : t.decState = .xfer) (hticks : t.ticks ≤ tEnd)
    (hclk : t.pwmClk ≤ t.ticks) : t.stepsLeft tEnd < s.stepsLeft tEnd := by
  obtain ⟨hwf, -, hdec, hpwm⟩ := hs
  obtain ⟨-, hhi, -, -⟩ := (decTimely_of_xfer hx).1 hdec
  have hH := one_le_halfTicks_of_wf hwf
  have hr := hostReady_of_no_script h.script
  rcases step_cases hst with ⟨hr', -, -⟩ | ⟨-, hready, hd⟩ | ⟨-, -, hready, hp⟩ | ⟨-, -, -, -, rfl⟩
  · simp [hr] at hr'
  · obtain ⟨-, -, hover⟩ := decReady_iff.1 hready
    have hreached : s.spiClk + s.cfg.halfTicks ≤ s.ticks := by
      simpa [hx, Nat.one_le_iff_ne_zero.1 hH] using hover
    rw [decStep_of_xfer hx] at hd
    cases hd
    exact transferResume_stepsLeft hH hhi hreached hx' tEnd
  · exact h.pwmStep_stepsLeft hpwm hready hp (hclk.trans hticks)
  · exact tick_stepsLeft hticks

/-- Inside a transfer its return still lies ahead (R142). -/
theorem transferring_ticks_le {s : State} {T0 : Nat} {w b : Byte} (h : s.transferring T0 w b) :
    s.ticks ≤ T0 + slotCount s.cpha * s.cfg.halfTicks := by
  obtain ⟨hsam, htimely, -⟩ := transferring_iff.1 h
  have ⟨hx, _⟩ := hsam
  obtain ⟨hlo, hhi, -, hdl⟩ := (decTimely_of_xfer hx).1 htimely
  rw [sampling_deadline hsam hlo] at hdl
  exact hdl.trans (Nat.add_le_add_left (Nat.mul_le_mul_right _ hhi) _)

theorem run_of_step {s t : State} (h : step s = .next t) (n : Nat) :
    Host.Core.run Sys2Proof.core (n + 1) s = Host.Core.run Sys2Proof.core n t := by
  have h' : Sys2Proof.core.step s = .next t := h
  simp [Host.Core.run, h']

/-- Settles O55, by induction on the bound of the steps left: each step leaves the transfer under way with a smaller
bound, or is the return. -/
theorem transferReturnsInTheEnd : Obligations.TransferReturnsInTheEnd := by
  intro s T0 w b hs htr hscript hwide hf hperiod hprev
  have h : s.Undisturbed := ⟨hscript, hwide, hf, hperiod, hprev⟩
  clear hscript hwide hf hperiod hprev
  induction hk : s.stepsLeft (T0 + slotCount s.cpha * s.cfg.halfTicks) using Nat.strong_induction_on generalizing s with
  | _ k ih =>
    subst hk
    have hx := htr.1
    obtain ⟨t, hst⟩ := h.step_next hx
    have hr := hostReady_of_no_script h.script
    rcases transferReadsTheSlavesByteOnTime s t T0 w b hs htr (resetComes_of_not_ready hr) hst with
      htr' | ⟨hpub, hracc, hticks, -, -⟩
    · have hs' := everyStepKeepsDeadlines s t hs hst
      have hcfg := parametersAreFixed s t hst
      obtain ⟨-, -, -, -, -, hcpha, -⟩ := noCommandIsFetchedDuringATransfer s t (by simp [hx]) hr hst
      have ⟨_, _, _, hpwm⟩ := hs'
      have hless := h.step_stepsLeft hs hx hst htr'.1 (transferring_ticks_le htr') (pwmClk_le_ticks hpwm)
      rw [hcpha, hcfg] at hless
      obtain ⟨n, u, hrun, hpub, hracc, hticks⟩ := ih _ hless t hs' htr' (h.of_step hs hx hst) (by rw [hcpha, hcfg])
      rw [hcpha, hcfg] at hticks
      exact ⟨n + 1, u, (run_of_step hst n).trans hrun, hpub, hracc, hticks⟩
    · exact ⟨1, t, run_of_step hst 0, hpub, hracc, hticks⟩

end Sys2Proof.Machine
end

section
/-! PROOF. 42_pwm_generator.md: the two commands that write the shared pair, each stretch of the PWM cycle, the duty law
and the no-drift law along a run, and what PWM reads. -/

namespace Sys2Proof.Machine

/-! ## The commands (R172, R173) -/

/-- Settles O11: the meanings of the two commands. -/
theorem pwmCommandsWriteTheirField : Obligations.PwmCommandsWriteTheirField :=
  ⟨fun _ _ => rfl, fun _ _ => rfl⟩

/-! ## The stretches of a cycle (R165 to R169) -/

theorem exec_pwmCycle_start {s : State} (h : s.pwmPhase = .start) : exec .pwmCycle s = .next (pwmStart s) := by
  simp [exec, execPwmCycle, h]

theorem exec_pwmCycle_fall {s : State} (h : s.pwmPhase = .fall) : exec .pwmCycle s = .next (pwmFall s) := by
  simp [exec, execPwmCycle, h]

theorem pwmAct_alwaysOn {s : State} (h : s.snapP.toNat ≤ s.snapH.toNat) :
    pwmAct s = { s with pwmOut := true, cct := s.snapP, pwmPhase := .snap } :=
  if_pos h

theorem pwmAct_alwaysOff {s : State} (h0 : s.snapH.toNat = 0) (hp : 1 ≤ s.snapP.toNat) :
    pwmAct s = { s with pwmOut := false, cct := s.snapP, pwmPhase := .snap } := by
  rw [pwmAct, if_neg (by omega), if_pos h0]

theorem pwmAct_rise {s : State} (hh : 1 ≤ s.snapH.toNat) (hlt : s.snapH.toNat < s.snapP.toNat) :
    pwmAct s = { s with pwmOut := true, pwmPhase := .fall } := by
  rw [pwmAct, if_neg (by omega), if_neg (by omega)]

theorem pwmStart_pending {s : State} (hahead : s.ticks < s.pwmClk + scaled s.cct s.cfg.pwmShift)
    (howed : 1 ≤ s.cct.toNat) : pwmStart s = s := by
  rcases pwmStart_cases s with ⟨_ | _, -⟩ | ⟨-, -, e⟩
  · omega
  · omega
  · exact e

/-- A cycle starts when the owed wait is over, or at once when nothing is owed (R165). -/
theorem pwmStart_over {s : State} (hover : s.cct.toNat = 0 ∨ s.pwmClk + scaled s.cct s.cfg.pwmShift ≤ s.ticks) :
    pwmStart s = pwmAct (s.setClock .pwm (s.pwmClk + scaled s.cct s.cfg.pwmShift)) := by
  rcases pwmStart_cases s with ⟨-, e⟩ | ⟨_, _, -⟩
  · exact e
  · omega

/-- Settles O30: the owed wait is not over. -/
theorem cycleStartWaitsTheOwedTime : Obligations.CycleStartWaitsTheOwedTime := by
  intro s hph hahead howed
  rw [exec_pwmCycle_start hph, pwmStart_pending hahead howed]

/-- Settles O28: the owed wait is over, and the case is that of the clamped pair. -/
theorem cycleStartActsByCase : Obligations.CycleStartActsByCase := by
  intro s hph hover
  rw [exec_pwmCycle_start hph, pwmStart_over hover]
  refine ⟨fun hle => ?_, fun h0 hp => ?_, fun hh hlt => ?_⟩
  · exact congrArg _ (pwmAct_alwaysOn (s := s.setClock .pwm _) hle)
  · exact congrArg _ (pwmAct_alwaysOff (s := s.setClock .pwm _) h0 hp)
  · exact congrArg _ (pwmAct_rise (s := s.setClock .pwm _) hh hlt)

/-- Settles O29, by whether the inner wait is over. -/
theorem cycleFallOwesTheRest : Obligations.CycleFallOwesTheRest := by
  intro s hph hh
  have hwait : 1 ≤ scaled s.snapH s.cfg.pwmShift := scaled_pos.2 hh
  rw [exec_pwmCycle_fall hph]
  exact ⟨fun hreached => congrArg _ (delayUntil_reached (c := .pwm) hwait hreached),
    fun hahead => congrArg _ (delayUntil_pending (c := .pwm) hahead hwait)⟩

/-! ## The stretches of a cycle on time (R128, R170)

Where no deadline is ever passed, a wait ends exactly at its deadline. -/

theorem pwmStart_onTime {s : State} (hph : s.pwmPhase = .start) (h : s.pwmTimely) :
    pwmStart s = s ∨
    (s.ticks = s.pwmClk + scaled s.cct s.cfg.pwmShift ∧ pwmStart s = pwmAct (s.setClock .pwm s.ticks)) := by
  obtain ⟨hclk, hdl, -, -⟩ := (pwmTimely_of_start hph).1 h
  rcases pwmStart_cases s with ⟨hover, e⟩ | ⟨-, -, e⟩
  · have howed := scaled_eq_zero (v := s.cct) (n := s.cfg.pwmShift)
    have hmet : s.ticks = s.pwmClk + scaled s.cct s.cfg.pwmShift := by omega
    exact .inr ⟨hmet, hmet ▸ e⟩
  · exact .inl e

theorem pwmFall_onTime {s : State} (hph : s.pwmPhase = .fall) (h : s.pwmTimely) :
    pwmFall s = s ∨
    (s.ticks = s.pwmClk + scaled s.snapH s.cfg.pwmShift ∧ pwmFall s = pwmLower (s.setClock .pwm s.ticks)) := by
  obtain ⟨-, hdl, hh, -⟩ := (pwmTimely_of_fall hph).1 h
  rcases pwmFall_cases hh with ⟨hreached, e⟩ | ⟨-, e⟩
  · have hmet := Nat.le_antisymm hdl hreached
    exact .inr ⟨hmet, hmet ▸ e⟩
  · exact .inl e

/-! ## PWM's registers along a run -/

/-- A step that is not the reset is PWM's, or it moves none of PWM's registers and pin (R52, R160). -/
theorem step_pwm_or_sameWaveform {s t : State} (hc : s.resetComes = false) (h : step s = .next t) :
    exec .pwmCycle s = .next t ∨ s.sameWaveform { t with ticks := s.ticks } := by
  rcases step_cases h with ⟨hr, hf, hs⟩ | ⟨-, -, hs⟩ | ⟨-, -, -, hs⟩ | ⟨-, -, -, -, rfl⟩
  · obtain ⟨⟨-, hregs⟩, -⟩ := hostReachesOnlyTheMailbox s t hs (not_reset_of_resetComes hc hr hf)
    exact .inr ⟨rfl, hregs⟩
  · obtain ⟨⟨-, hregs⟩, -⟩ := decoderWritesOnlyItsOwn s t hs
    exact .inr ⟨rfl, hregs⟩
  · exact .inl hs
  · exact .inr ⟨rfl, rfl, rfl, rfl, rfl, rfl, rfl⟩

/-! ## The no-drift law (R171) -/

/-- The instant of the next cycle start is a matter of PWM's registers alone. -/
theorem nextStart_of_sameWaveform {s t : State} (hw : s.sameWaveform t) (hcfg : t.cfg = s.cfg) :
    t.nextStart = s.nextStart := by
  obtain ⟨-, hclk, hcct, hphase, hp, -, -⟩ := hw
  unfold State.nextStart
  rw [← hclk, ← hcct, ← hphase, ← hp, hcfg]

theorem nextStart_of_snap {s : State} (h : s.pwmPhase = .snap) :
    s.nextStart = s.pwmClk + scaled s.cct s.cfg.pwmShift := by
  rw [State.nextStart, h]

theorem nextStart_of_start {s : State} (h : s.pwmPhase = .start) :
    s.nextStart = s.pwmClk + scaled s.cct s.cfg.pwmShift := by
  rw [State.nextStart, h]

theorem nextStart_of_fall {s : State} (h : s.pwmPhase = .fall) :
    s.nextStart = s.pwmClk + scaled s.snapP s.cfg.pwmShift := by
  rw [State.nextStart, h]

/-- The snapshot leaves what is owed, and since when. -/
theorem pwmSnap_nextStart {s : State} (h : s.pwmPhase = .snap) : (pwmSnap s).nextStart = s.nextStart := by
  rw [nextStart_of_snap h]
  obtain ⟨_, _, -, -, -, -, ⟨-, e⟩ | ⟨-, e⟩⟩ := pwmSnap_cases s <;> rw [e]
  · exact nextStart_of_snap h
  · exact nextStart_of_start rfl

/-- The first pin action of a cycle leaves `START`, with the whole period to come (R167 to R169). -/
theorem pwmAct_nextStart (s : State) :
    (pwmAct s).pwmPhase ≠ .start ∧ (pwmAct s).nextStart = s.pwmClk + scaled s.snapP s.cfg.pwmShift := by
  rcases pwmAct_cases s with ⟨-, e⟩ | ⟨-, -, e⟩ | ⟨-, -, e⟩ <;> rw [e]
  · exact ⟨nofun, nextStart_of_snap rfl⟩
  · exact ⟨nofun, nextStart_of_snap rfl⟩
  · exact ⟨nofun, nextStart_of_fall rfl⟩

/-- The two waits of a general cycle add up to its period. -/
theorem pwmFall_nextStart {s : State} (hph : s.pwmPhase = .fall) (h : s.pwmTimely) :
    (pwmFall s).nextStart = s.nextStart := by
  rcases pwmFall_onTime hph h with e | ⟨hmet, e⟩ <;> rw [e]
  obtain ⟨-, -, -, hlt⟩ := (pwmTimely_of_fall hph).1 h
  calc (pwmLower (s.setClock .pwm s.ticks)).nextStart
      = s.ticks + scaled (s.snapP - s.snapH) s.cfg.pwmShift := nextStart_of_snap rfl
    _ = s.pwmClk + scaled s.snapP s.cfg.pwmShift := by
      rw [hmet, Nat.add_assoc, scaled_sub_add _ hlt.le]
    _ = s.nextStart := (nextStart_of_fall hph).symm

/-- Settles O31, by whose step it is and where PWM stands: only the end of the owed wait moves the next start. -/
theorem cycleStartsDoNotDrift : Obligations.CycleStartsDoNotDrift := by
  intro s t hs hc h
  obtain ⟨-, -, -, hpwm⟩ := hs
  rcases step_pwm_or_sameWaveform hc h with hst | hw
  · rcases pwmStep_cases hst with ⟨hph, rfl⟩ | ⟨hph, rfl⟩ | ⟨hph, rfl⟩
    · rw [if_neg (by simp [hph])]
      exact pwmSnap_nextStart hph
    · rcases pwmStart_onTime hph hpwm with e | ⟨hmet, e⟩ <;> rw [e]
      · rw [if_neg (by simp [hph])]
      · obtain ⟨hleft, hnext⟩ := pwmAct_nextStart (s.setClock .pwm s.ticks)
        have hnow : s.ticks = s.nextStart := hmet.trans (nextStart_of_start hph).symm
        have hticks : (pwmAct (s.setClock .pwm s.ticks)).ticks = s.ticks := by
          rw [← e, pwmStep_frame hst]
        rw [if_pos ⟨hph, hleft⟩, ← hnow]
        exact ⟨rfl, hticks, hnext⟩
    · rw [if_neg (by simp [hph])]
      exact pwmFall_nextStart hph hpwm
  · have hnext := nextStart_of_sameWaveform hw (parametersAreFixed s t h)
    obtain ⟨-, -, -, hphase, -⟩ := hw
    rw [if_neg (by simp [hphase])]
    exact hnext

/-! ## The duty law (R177) -/

/-- The first pin action of a cycle of a clamped pair: high exactly for a high time of at least 1, and the rise of a
general cycle keeps its snapshot. -/
theorem pwmAct_output {s : State} (hp : 1 ≤ s.snapP.toNat) (hle : s.snapH.toNat ≤ s.snapP.toNat) :
    (pwmAct s).pwmOut = decide (1 ≤ s.snapH.toNat) ∧
      if 1 ≤ s.snapH.toNat ∧ s.snapH.toNat < s.snapP.toNat
        then (pwmAct s).pwmPhase = .fall ∧ (pwmAct s).pwmClk = s.pwmClk ∧ (pwmAct s).snapP = s.snapP ∧
          (pwmAct s).snapH = s.snapH
        else (pwmAct s).pwmPhase = .snap := by
  rcases pwmAct_cases s with ⟨hon, e⟩ | ⟨-, hoff, e⟩ | ⟨hlt, hh, e⟩ <;> rw [e]
  · rw [if_neg (by omega)]
    exact ⟨(decide_eq_true (hp.trans hon)).symm, rfl⟩
  · rw [if_neg (by omega)]
    exact ⟨(decide_eq_false (by omega)).symm, rfl⟩
  · rw [if_pos ⟨hh, hlt⟩]
    exact ⟨(decide_eq_true hh).symm, rfl, rfl, rfl, rfl⟩

/-- Settles O32, by whose step it is and where PWM stands: the output moves only at the end of a wait, which ends
exactly at its deadline. -/
theorem outputIsHighForTheHighTime : Obligations.OutputIsHighForTheHighTime := by
  intro s t hs hc h
  obtain ⟨-, -, -, hpwm⟩ := hs
  rcases step_pwm_or_sameWaveform hc h with hst | ⟨-, hclk, -, hphase, hp, hh, hout⟩
  · rcases pwmStep_cases hst with ⟨hph, rfl⟩ | ⟨hph, rfl⟩ | ⟨hph, rfl⟩
    · obtain ⟨_, _, -, -, -, -, ⟨-, e⟩ | ⟨-, e⟩⟩ := pwmSnap_cases s <;> rw [e]
      · exact .inl ⟨rfl, rfl, fun hn => absurd hph hn⟩
      · exact .inr (.inl ⟨hph, rfl, rfl⟩)
    · obtain ⟨-, -, hp, hle⟩ := (pwmTimely_of_start hph).1 hpwm
      rcases pwmStart_onTime hph hpwm with e | ⟨-, e⟩ <;> rw [e]
      · exact .inl ⟨rfl, rfl, fun _ => ⟨rfl, rfl, rfl⟩⟩
      · exact .inr (.inr (.inl ⟨hph, pwmAct_output (s := s.setClock .pwm s.ticks) hp hle⟩))
    · rcases pwmFall_onTime hph hpwm with e | ⟨hmet, e⟩ <;> rw [e]
      · exact .inl ⟨rfl, rfl, fun _ => ⟨rfl, rfl, rfl⟩⟩
      · exact .inr (.inr (.inr ⟨hph, rfl, rfl, hmet⟩))
  · exact .inl ⟨hout.symm, hphase.symm, fun _ => ⟨hclk.symm, hp.symm, hh.symm⟩⟩

/-! ## What PWM reads (R160, R178) -/

section samePwm
variable {s t : State}

theorem samePwm_pwmReady (h : s.samePwm t) : s.pwmReady = t.pwmReady := by
  unfold State.samePwm at h
  rw [Bool.eq_iff_iff, pwmReady_iff, pwmReady_iff]
  simp only [h]

/-- A wait of PWM is over for both states or for neither (R121). -/
theorem samePwm_delayUntil {k : State → State} (hk : ∀ u v : State, u.samePwm v → (k u).samePwm (k v)) (inc : Nat)
    (h : s.samePwm t) : (delayUntil .pwm inc k s).samePwm (delayUntil .pwm inc k t) := by
  have hsame := h
  unfold State.samePwm at hsame
  by_cases h0 : inc = 0
  · subst h0
    simp [delayUntil_zero, State.samePwm, hsame]
  by_cases hreached : s.pwmClk + inc ≤ s.ticks
  · have hreached' : t.pwmClk + inc ≤ t.ticks := by simpa only [hsame] using hreached
    rw [delayUntil_reached (by omega) hreached, delayUntil_reached (by omega) hreached']
    apply hk
    simp [State.samePwm, hsame]
  · have hahead' : ¬ t.pwmClk + inc ≤ t.ticks := by simpa only [hsame] using hreached
    rw [delayUntil_pending (Nat.lt_of_not_le hreached) (by omega),
      delayUntil_pending (Nat.lt_of_not_le hahead') (by omega)]
    exact h

theorem samePwm_pwmAct (h : s.samePwm t) : (pwmAct s).samePwm (pwmAct t) := by
  unfold State.samePwm at h
  unfold pwmAct
  simp only [h]
  split
  · simp [State.samePwm, h]
  · split <;> simp [State.samePwm, h]

theorem samePwm_pwmLower (h : s.samePwm t) : (pwmLower s).samePwm (pwmLower t) := by
  unfold State.samePwm at h
  simp [pwmLower, State.samePwm, h]

theorem samePwm_pwmSnap (h : s.samePwm t) : (pwmSnap s).samePwm (pwmSnap t) := by
  unfold State.samePwm at h
  unfold pwmSnap
  simp only [h]
  split <;> simp [State.samePwm, h]

theorem samePwm_pwmStart (h : s.samePwm t) : (pwmStart s).samePwm (pwmStart t) := by
  have hsame := h
  unfold State.samePwm at hsame
  unfold pwmStart
  simp only [hsame]
  split
  · exact samePwm_pwmAct h
  · exact samePwm_delayUntil (fun _ _ => samePwm_pwmAct) _ h

theorem samePwm_pwmFall (h : s.samePwm t) : (pwmFall s).samePwm (pwmFall t) := by
  have hsame := h
  unfold State.samePwm at hsame
  unfold pwmFall
  simp only [hsame]
  exact samePwm_delayUntil (fun _ _ => samePwm_pwmLower) _ h

end samePwm

/-- Settles O33: both states stand in the same stretch, which keeps what is PWM's the same. -/
theorem pwmIsNotHeldUpByTheDecoder : Obligations.PwmIsNotHeldUpByTheDecoder := by
  intro s t h
  refine ⟨samePwm_pwmReady h, fun s' t' hs ht => ?_⟩
  have hphase : s.pwmPhase = t.pwmPhase := by
    unfold State.samePwm at h
    simp only [h]
  rcases pwmStep_cases hs with ⟨hph, rfl⟩ | ⟨hph, rfl⟩ | ⟨hph, rfl⟩
  · rw [exec_pwmCycle_snap (hphase ▸ hph)] at ht
    cases ht
    exact samePwm_pwmSnap h
  · rw [exec_pwmCycle_start (hphase ▸ hph)] at ht
    cases ht
    exact samePwm_pwmStart h
  · rw [exec_pwmCycle_fall (hphase ▸ hph)] at ht
    cases ht
    exact samePwm_pwmFall h

end Sys2Proof.Machine
end

section
/-! PROOF. 43_command_decoder.md: the fetch of a pending command and the step that runs it, the publish, and the HOST's
hold on DEC while a response is unread. -/

namespace Sys2Proof.Machine

/-! ## The publish (R189, R216) -/

theorem exec_publish_free {s : State} (h : s.respValid = false) :
    exec .publish s = .next { s with respByte := s.racc, respValid := true, decState := .idle } := by
  simp only [exec, execPublish, h]
  rfl

theorem exec_publish_unread {s : State} (h : s.respValid = true) :
    exec .publish s = .next { s with decState := .publish } := by
  simp only [exec, execPublish, h, if_true]

/-- Settles O24, by whether the response register is free. -/
theorem publishWaitsForAFreeRegister : Obligations.PublishWaitsForAFreeRegister :=
  fun _ => ⟨exec_publish_free, exec_publish_unread⟩

/-- In `PUBLISH` with the response unread DEC waits, whatever the fault set (R189, R216). -/
theorem decReady_of_unread {s : State} (hp : s.decState = .publish) (hv : s.respValid = true) :
    s.decReady = false := by
  simp [State.decReady, hp, hv]

theorem pwmStep_sameDecoder {s t : State} (h : exec .pwmCycle s = .next t) : t.sameDecoder s := by
  rw [pwmStep_frame h]
  simp [State.sameDecoder]

theorem tick_sameDecoder (s : State) : s.tick.sameDecoder s := by
  simp [State.sameDecoder]

/-- Settles O25: it is neither the HOST's turn nor DEC's, and PWM and TB leave DEC's registers alone. -/
theorem unreadResponseHoldsTheDecoder : Obligations.UnreadResponseHoldsTheDecoder := by
  intro s t hp hv hr h
  have hwaits := decReady_of_unread hp hv
  rcases step_cases h with ⟨hhost, -, -⟩ | ⟨-, hdec, -⟩ | ⟨-, -, -, hs⟩ | ⟨-, -, -, -, rfl⟩
  · simp [hr] at hhost
  · simp [hwaits] at hdec
  · exact pwmStep_sameDecoder hs
  · exact tick_sameDecoder s

/-! ## The fetch (R76, R180 to R182) -/

/-- Settles O23: the latch of DEC, with the two fields of the word (R90). -/
theorem fetchLatchesTheCommand : Obligations.FetchLatchesTheCommand :=
  fun _ => rfl

/-- Settles O5: it is DEC's turn, and DEC runs the command at the state its latch leaves. -/
theorem stepRunsTheFetchedCommand : Obligations.StepRunsTheFetchedCommand := by
  intro s i hr hi hv hbad hzero hd
  calc step s
      = withinTicks (decStep s) := step_of_decReady hr (decReady_iff.2 ⟨hbad, hzero, .inl ⟨hi, hv⟩⟩)
    _ = withinTicks (exec i s.latchCommand) := by rw [decStep_of_command hi hd]

end Sys2Proof.Machine
end

section
/-! PROOF. 44_accel_consumer.md rule R203: the HOST's own wait between two accesses (log entry 14). -/

namespace Sys2Proof.Machine

@[simp] theorem notBefore_actions (n : Nat) (rest : List (Nat × HostAction)) :
    (notBefore n rest).map Prod.snd = rest.map Prod.snd := by
  cases rest <;> rfl

/-- The HOST's turn (R214): its access of the instant is free, and the action's own instant has come. -/
theorem hostReady_cons {u : State} {n : Nat} {a : HostAction} {rest : List (Nat × HostAction)}
    (hs : u.hostScript = (n, a) :: rest) : u.hostReady = true ↔ u.hostDone = false ∧ n ≤ u.ticks := by
  simp [State.hostReady, hs]

theorem hostReady_after_wait {u : State} {n t : Nat} {a : HostAction} {rest : List (Nat × HostAction)}
    (hs : u.hostScript = notBefore n ((t, a) :: rest)) (hfree : u.hostDone = false) (hn : n ≤ u.ticks)
    (ht : t ≤ u.ticks) : u.hostReady = true :=
  (hostReady_cons hs).2 ⟨hfree, max_le ht hn⟩

/-- Taking an action off the script moves neither the time nor a deadline. -/
theorem hostNext_ticksFit (s : State) (rest : List (Nat × HostAction)) : (s.hostNext rest).ticksFit = s.ticksFit := rfl

/-- Settles O45: the script left is the remaining one, held back until the wait is over. -/
theorem waitHoldsTheHostBack : Obligations.WaitHoldsTheHostBack := by
  intro s n k rest hs hr hf ht
  have hstep : step s = .next (s.hostNext (notBefore (s.ticks + k) rest)) :=
    step_of_hostAct hs hr hf rfl ((hostNext_ticksFit ..).trans ht)
  refine ⟨notBefore (s.ticks + k) rest, hstep, notBefore_actions .., fun _ => hostReady_notBefore, ?_⟩
  rintro u t' a rest' rfl hu hfree hover hown
  exact hostReady_after_wait hu hfree hover hown

end Sys2Proof.Machine
end

section
/-! PROOF. 60_exceptions.md rules R211 and R214: whose step an instant holds next, and where a marked state stops.  DEC's
turn is `step_of_decReady`. -/

namespace Sys2Proof.Machine

/-- The HOST's turn (R214), whatever its script asks for. -/
theorem step_of_hostTurn {s : State} (hr : s.hostReady = true) (hf : s.fault.any = false) :
    step s = withinTicks (hostStep s) := by
  simp [step, agentStep, hr, hf]

/-- PWM's turn (R129, R214). -/
theorem step_of_pwmReady {s : State} (hr : s.hostReady = false) (hd : s.decReady = false)
    (hp : s.pwmReady = true) : step s = withinTicks (exec .pwmCycle s) := by
  simp [step, agentStep, hr, hd, hp, pwmStep]

theorem quiet_iff {s : State} :
    s.quiet = true ↔ s.hostReady = false ∧ s.decReady = false ∧ s.pwmReady = false := by
  simp [State.quiet, and_assoc]

/-- TB's turn (R129). -/
theorem step_of_quiet {s : State} (hq : s.quiet = true) (hf : s.fault.any = false) :
    step s = withinTicks (.next s.tick) := by
  obtain ⟨hr, hd, hp⟩ := quiet_iff.1 hq
  simp [step, agentStep, hr, hd, hp, hf]

/-- A mark shuts out the HOST's turn and TB's: with DEC and PWM at rest only the stop is left. -/
theorem agentStep_of_marked {s : State} (hf : s.fault.any = true) (hd : s.decReady = false)
    (hp : s.pwmReady = false) : agentStep s = .fault (.undefinedBehaviour s.fault) := by
  simp [agentStep, hf, hd, hp]

/-- Settles O8, one turn after the other. -/
theorem agentsTakeTurnsInOrder : Obligations.AgentsTakeTurnsInOrder :=
  ⟨fun _ => step_of_hostTurn, fun _ => step_of_decReady, fun _ => step_of_pwmReady, fun _ => step_of_quiet⟩

/-- Settles O58: the check of the tick counts lets a fault stand. -/
theorem markedStateStops : Obligations.MarkedStateStops := by
  intro s hf hd hp
  rw [step, agentStep_of_marked hf hd hp]
  rfl

end Sys2Proof.Machine
end

section
/-! PROOF. 60_exceptions.md rules R230 to R232: the reset at any instant, and the first always-off cycle after it. -/

namespace Sys2Proof.Machine

/-! ## The reset at any instant (R230, R232) -/

/-- At the instant of the reset nothing is waited for: every tick count is 0. -/
theorem resetWith_ticksFit (p : Params) : (State.resetWith p).ticksFit = true :=
  ticksFit_iff.2 fun w _ => ⟨Nat.two_pow_pos w, Nat.two_pow_pos w, Nat.two_pow_pos w⟩

section resetNow
variable (s : State) (slave : Slave) (rest : List (Nat × HostAction))

theorem resetNow_ticksFit : (s.resetNow slave rest).ticksFit = true := resetWith_ticksFit s.cfg

theorem resetNow_sameDecoder : (s.resetNow slave rest).sameDecoder (State.resetWith s.cfg) := by
  simp [State.resetNow, State.sameDecoder]

theorem resetNow_sameWaveform : (s.resetNow slave rest).sameWaveform (State.resetWith s.cfg) := by
  simp [State.resetNow, State.sameWaveform]

theorem resetNow_samePair : (s.resetNow slave rest).samePair (State.resetWith s.cfg) := ⟨rfl, rfl⟩

end resetNow

/-- Settles O48: the HOST's turn answers the reset state, whose tick counts fit every counter. -/
theorem resetAtAnyInstant : Obligations.ResetAtAnyInstant := by
  intro s n slave rest hs hr hf
  exact ⟨s.resetNow slave rest, step_of_hostAct hs hr hf rfl (resetNow_ticksFit s slave rest),
    resetNow_sameDecoder s slave rest, resetNow_sameWaveform s slave rest, resetNow_samePair s slave rest,
    any_empty, resetNow_cfg s slave rest, rfl, rfl, rfl⟩

/-! ## Instant 0 (R231) -/

/-- The constraint `PWM_W + S <= TICK_W` (R7) makes room for every scaled PWM quantity. -/
theorem scaled_lt_of_wf {p : Params} (hp : p.wf = true) {w : Nat} (hw : p.tickW = some w) (v : Payload) :
    scaled v p.pwmShift < 2 ^ w := by
  have hwidth : 24 + p.pwmShift ≤ w := by
    simp only [Params.wf, hw, Bool.and_eq_true, decide_eq_true_eq] at hp
    exact hp.2
  calc scaled v p.pwmShift
      < 2 ^ 24 * 2 ^ p.pwmShift := Nat.mul_lt_mul_of_pos_right v.isLt (Nat.two_pow_pos _)
    _ = 2 ^ (24 + p.pwmShift) := (Nat.pow_add ..).symm
    _ ≤ 2 ^ w := Nat.pow_le_pow_right Nat.two_pos hwidth

/-- The reset state but for what PWM's first steps write of it: the phase, the period read, the ticks owed, and the
free orders drawn (log entry 3). -/
def State.atInstantZero (p : Params) (phase : PwmPhase) (snapP cct : Payload) (drawn : Nat) : State :=
  { State.resetWith p with pwmPhase := phase, snapP := snapP, cct := cct, raceDraw := drawn }

theorem resetWith_eq_atInstantZero (p : Params) : State.resetWith p = .atInstantZero p .snap 0 0 0 := rfl

section atInstantZero
variable {p : Params} {phase : PwmPhase} {snapP cct : Payload} {drawn : Nat}

theorem atInstantZero_hostReady : (State.atInstantZero p phase snapP cct drawn).hostReady = false :=
  hostReady_of_no_script rfl

theorem atInstantZero_decReady : (State.atInstantZero p phase snapP cct drawn).decReady = false := rfl

theorem atInstantZero_ticksFit (hp : p.wf = true) : (State.atInstantZero p phase snapP cct drawn).ticksFit = true := by
  refine ticksFit_iff.2 fun w hw => ⟨Nat.two_pow_pos w, Nat.two_pow_pos w, ?_⟩
  cases phase with
  | snap => exact Nat.two_pow_pos w
  | start => exact (Nat.zero_add _).trans_lt (scaled_lt_of_wf hp hw cct)
  | fall => exact (Nat.zero_add _).trans_lt (scaled_lt_of_wf hp hw 0)

/-- With the HOST quiet and no command pending, the turn is PWM's where it has a step. -/
theorem step_atInstantZero {t : State} (hr : (State.atInstantZero p phase snapP cct drawn).pwmReady = true)
    (h : exec .pwmCycle (.atInstantZero p phase snapP cct drawn) = .next t) (ht : t.ticksFit = true) :
    step (.atInstantZero p phase snapP cct drawn) = .next t := by
  rw [step_of_pwmReady atInstantZero_hostReady atInstantZero_decReady hr, h, withinTicks_of_fit ht]

/-- The snapshot of instant 0 reads the pair `(2, 0)` of the reset: no write races with it (R73, R162). -/
theorem pwmSnap_atInstantZero :
    pwmSnap (.atInstantZero p .snap snapP cct drawn) = .atInstantZero p .start 2 cct (drawn + 2) := by
  obtain ⟨q, h, -, -, hq, hh, ⟨h0, -⟩ | ⟨-, e⟩⟩ := pwmSnap_cases (.atInstantZero p .snap snapP cct drawn)
  · rw [hq rfl] at h0
    exact absurd h0 (show (2 : Payload).toNat ≠ 0 by decide)
  · rw [e, hq rfl, hh rfl]
    rfl

/-- Nothing is owed yet, so the first cycle begins at once, and a high time of 0 makes it always-off (R165, R168). -/
theorem pwmStart_atInstantZero :
    pwmStart (.atInstantZero p .start 2 0 drawn) = .atInstantZero p .snap 2 2 drawn := by
  rw [pwmStart_over (.inl rfl), pwmAct_alwaysOff rfl (show 1 ≤ (2 : Payload).toNat by decide)]
  simp [State.atInstantZero, State.setClock, State.resetWith, scaled]

theorem step_snap_atInstantZero (hp : p.wf = true) :
    step (.atInstantZero p .snap snapP cct drawn) = .next (.atInstantZero p .start 2 cct (drawn + 2)) :=
  step_atInstantZero rfl ((exec_pwmCycle_snap rfl).trans (congrArg _ pwmSnap_atInstantZero)) (atInstantZero_ticksFit hp)

theorem step_start_atInstantZero (hp : p.wf = true) :
    step (.atInstantZero p .start 2 0 drawn) = .next (.atInstantZero p .snap 2 2 drawn) :=
  step_atInstantZero (pwmReady_iff.2 ⟨rfl, rfl, .inr (.inl ⟨rfl, .inl rfl⟩)⟩)
    ((exec_pwmCycle_start rfl).trans (congrArg _ pwmStart_atInstantZero)) (atInstantZero_ticksFit hp)

theorem atInstantZero_nextStart :
    (State.atInstantZero p .start snapP cct drawn).nextStart = cct.toNat * 2 ^ p.pwmShift :=
  Nat.zero_add _

/-- Ticks are owed, so PWM waits as the HOST and DEC do (R129). -/
theorem atInstantZero_quiet (howed : 1 ≤ cct.toNat) : (State.atInstantZero p .start snapP cct drawn).quiet = true := by
  have hwait : 1 ≤ scaled cct p.pwmShift := scaled_pos.2 howed
  have hpwm : delayOver .pwm (scaled cct p.pwmShift) (.atInstantZero p .start snapP cct drawn) = false :=
    delayOver_false.2 ⟨hwait, Nat.add_pos_right 0 hwait⟩
  exact quiet_iff.2 ⟨atInstantZero_hostReady, atInstantZero_decReady, hpwm⟩

end atInstantZero

/-- Settles O49: a snapshot, the always-off cycle, and the second snapshot, all at instant 0. -/
theorem instantZeroAfterReset : Obligations.InstantZeroAfterReset := by
  intro p hp
  have hrun : Host.Core.run Sys2Proof.core 3 (State.resetWith p) = .next (.atInstantZero p .start 2 2 4) := by
    rw [resetWith_eq_atInstantZero, run_of_step (step_snap_atInstantZero hp), run_of_step (step_start_atInstantZero hp),
      run_of_step (step_snap_atInstantZero hp)]
    rfl
  exact ⟨_, hrun, rfl, rfl, rfl, rfl, rfl, rfl, rfl, atInstantZero_nextStart, atInstantZero_quiet (by decide), any_empty⟩

end Sys2Proof.Machine
end
